-- ==== Sys2Proof/Word.lean ====
section
/-! DEFINITION. The word types of the block: every value of the spec is unsigned (00_scope.md R15). -/

namespace Sys2Proof

/-- `u8`: a command code, a parameter byte, an entry of the gamma table memory. -/
abbrev Byte := BitVec 8

/-- `u16`: an operand field of a request word, a coordinate, a table length. -/
abbrev U16 := BitVec 16

/-- `u4`: an operation code (30_encoding.md R70, R71). -/
abbrev U4 := BitVec 4

/-- A request word `req_word[67:0]` (30_encoding.md R70). -/
abbrev ReqWord := BitVec 68

/-- A gamma table port word `gt_word[23:0]` (30_encoding.md R78). -/
abbrev GtWord := BitVec 24

end Sys2Proof
end

