-- ==== Sys2Proof/Syntax.lean ====
section
/-! DEFINITION. The instructions of the block: the rows of spec/opcode_table.json. -/

namespace Sys2Proof

/-- One instruction (00_scope.md R3). A request carries all four operand fields of its word, the ignored ones too:
accept latches them and records them in `EvAccept` (30_encoding.md R72 to R77, 40_sequencer.md R90). -/
inductive Instr where
  /-- `INIT` (41_initializer.md R110): no operands; A, B, C and D are ignored. -/
  | init (a b c d : U16)
  /-- `SETWIN x_start, y_start, x_end, y_end` (42_window.md R130). -/
  | setwin (xStart yStart xEnd yEnd : U16)
  /-- `SETORI rotation, bgr` (43_orientation.md R140): A is the rotation in degrees, bit 0 of D is `bgr`; B, C and
  D[15:1] are ignored. -/
  | setori (rotation b c d : U16)
  /-- `SETGAM len` (44_gamma.md R151): A is the table length; B, C and D are ignored. -/
  | setgam (len b c d : U16)
  /-- `RSV opc, a, b, c, d` (30_encoding.md R76, R86): a reserved operation code, 0x0 or 0x5 to 0xF. The five table
  rows with this mnemonic differ in `opc` alone (log 14). -/
  | rsv (opc : U4) (a b c d : U16)
  /-- `GTWR addr, data` (44_gamma.md R150): a gamma table port word, not a request. -/
  | gtwr (addr : U16) (data : Byte)
  deriving DecidableEq, Repr

end Sys2Proof
end

