-- ==== Sys2Proof/WellFormed.lean ====
section
/-! DEFINITION. Which instruction terms stand for a word of the spec (30_encoding.md R71, R76). -/

namespace Sys2Proof

/-- The reserved operation codes, 0x0 and 0x5 to 0xF (30_encoding.md R71, R76). -/
def reservedOpcode (opc : U4) : Bool :=
  !(opc == 0x1#4 || opc == 0x2#4 || opc == 0x3#4 || opc == 0x4#4)

/-- Every operand of `INIT`, `SETWIN`, `SETORI`, `SETGAM` and `GTWR` is legal at every value (30_encoding.md R73 to
R75, R78); a reserved request has a reserved code. -/
def Instr.wellFormed : Instr → Bool
  | .init _ _ _ _ => true
  | .setwin _ _ _ _ => true
  | .setori _ _ _ _ => true
  | .setgam _ _ _ _ => true
  | .rsv opc _ _ _ _ => reservedOpcode opc
  | .gtwr _ _ => true

end Sys2Proof
end

