-- ==== Sys2Proof/Decode.lean ====
section
/-! DEFINITION. The two word formats of the ports, the total decoder, the encoder, and the table-word interface
(30_encoding.md R70, R71, R78, R84 to R87). -/

namespace Sys2Proof

/-- A word on one of the two input ports (30_encoding.md R84): 68 bits on `req_word` or 24 bits on `gt_word`. -/
inductive PortWord where
  | req (w : ReqWord)
  | gt (w : GtWord)
  deriving DecidableEq, Repr

/-- Why raw bits are no word of a port. -/
inductive DecodeError where
  /-- The width is neither that of `gt_word` (24) nor at least that of `req_word` (68). -/
  | noSuchPort (nbits : Nat)
  /-- Bits above the port's width are not zero: no wire carries them. -/
  | tooWide (nbits w : Nat)
  deriving DecidableEq, Repr

/-- `OPCODE`, bits 67:64 (30_encoding.md R70; the name is 90_conflicts.md C10's). -/
def fieldOpcode (w : ReqWord) : U4 := w.extractLsb' 64 4

/-- Operand A, bits 63:48 (30_encoding.md R70). -/
def fieldA (w : ReqWord) : U16 := w.extractLsb' 48 16

/-- Operand B, bits 47:32 (30_encoding.md R70). -/
def fieldB (w : ReqWord) : U16 := w.extractLsb' 32 16

/-- Operand C, bits 31:16 (30_encoding.md R70). -/
def fieldC (w : ReqWord) : U16 := w.extractLsb' 16 16

/-- Operand D, bits 15:0 (30_encoding.md R70). -/
def fieldD (w : ReqWord) : U16 := w.extractLsb' 0 16

/-- `addr`, bits 23:8 of a GT word (30_encoding.md R78). -/
def fieldAddr (w : GtWord) : U16 := w.extractLsb' 8 16

/-- `data`, bits 7:0 of a GT word (30_encoding.md R78). -/
def fieldData (w : GtWord) : Byte := w.extractLsb' 0 8

/-- 30_encoding.md R85: every request word is one of five, selected by `OPCODE` alone. -/
def decodeReq (w : ReqWord) : Instr :=
  if fieldOpcode w = 0x1#4 then .init (fieldA w) (fieldB w) (fieldC w) (fieldD w)
  else if fieldOpcode w = 0x2#4 then .setwin (fieldA w) (fieldB w) (fieldC w) (fieldD w)
  else if fieldOpcode w = 0x3#4 then .setori (fieldA w) (fieldB w) (fieldC w) (fieldD w)
  else if fieldOpcode w = 0x4#4 then .setgam (fieldA w) (fieldB w) (fieldC w) (fieldD w)
  else .rsv (fieldOpcode w) (fieldA w) (fieldB w) (fieldC w) (fieldD w)

/-- 30_encoding.md R85: every GT word is a `GTWR`. -/
def decodeGt (w : GtWord) : Instr := .gtwr (fieldAddr w) (fieldData w)

/-- The decoder, total on the words of both ports (30_encoding.md R85). -/
def decode : PortWord → Instr
  | .req w => decodeReq w
  | .gt w => decodeGt w

/-- A request word from its five fields (30_encoding.md R70). -/
def encodeReq (opcode : U4) (a b c d : U16) : ReqWord := opcode ++ a ++ b ++ c ++ d

/-- A GT word from its two fields (30_encoding.md R78). -/
def encodeGt (addr : U16) (data : Byte) : GtWord := addr ++ data

/-- The word of an instruction, from the tables of 30_encoding.md R70, R71 and R78. -/
def encode : Instr → PortWord
  | .init a b c d => .req (encodeReq 0x1#4 a b c d)
  | .setwin xs ys xe ye => .req (encodeReq 0x2#4 xs ys xe ye)
  | .setori rot b c d => .req (encodeReq 0x3#4 rot b c d)
  | .setgam len b c d => .req (encodeReq 0x4#4 len b c d)
  | .rsv opc a b c d => .req (encodeReq opc a b c d)
  | .gtwr addr data => .gt (encodeGt addr data)

/-- Raw bits as a port word, refused by name when no port carries them. A request has 68 bits; held in whole bytes
its container is wider, and the bits above 67 must be 0 (log 21). -/
def portWord (nbits w : Nat) : Except DecodeError PortWord :=
  if nbits = 24 then
    if w < 2 ^ 24 then .ok (.gt (BitVec.ofNat 24 w)) else .error (.tooWide nbits w)
  else if 68 ≤ nbits then
    if w < 2 ^ 68 then .ok (.req (BitVec.ofNat 68 w)) else .error (.tooWide nbits w)
  else .error (.noSuchPort nbits)

/-- The instruction the decoder reads from an instruction whose bits are `w`, numbered as spec/opcode_table.json
numbers them. -/
def decodeTableWord (nbits w : Nat) : Option Instr :=
  match portWord nbits w with
  | .ok p => some (decode p)
  | .error _ => none

namespace Asm

/-- `INIT` as the assembler writes it: ignored fields are 0 (30_encoding.md R86). -/
def init : Instr := .init 0 0 0 0

/-- `SETWIN x_start, y_start, x_end, y_end` (30_encoding.md R86). -/
def setwin (xStart yStart xEnd yEnd : U16) : Instr := .setwin xStart yStart xEnd yEnd

/-- `SETORI rotation, bgr` (30_encoding.md R86): D[0] = bgr. -/
def setori (rotation : U16) (bgr : Bool) : Instr := .setori rotation 0 0 (if bgr then 1 else 0)

/-- `SETGAM len` (30_encoding.md R86). -/
def setgam (len : U16) : Instr := .setgam len 0 0 0

/-- `GTWR addr, data` (30_encoding.md R86). -/
def gtwr (addr : U16) (data : Byte) : Instr := .gtwr addr data

/-- `RSV opc, a, b, c, d` (30_encoding.md R86). -/
def rsv (opc : U4) (a b c d : U16) : Instr := .rsv opc a b c d

/-- `SETWIN.FULL` for a panel of `width` by `height` (30_encoding.md R87). -/
def setwinFull (width height : U16) : Instr := setwin 0 0 (width - 1) (height - 1)

/-- `GTLOAD t[0..n-1]` from table index `k` on (30_encoding.md R87). -/
def gtloadFrom (k : Nat) : List Byte → List Instr
  | [] => []
  | v :: t => gtwr (BitVec.ofNat 16 k) v :: gtloadFrom (k + 1) t

/-- `GTLOAD t[0..n-1]` (30_encoding.md R87). -/
def gtload (t : List Byte) : List Instr := gtloadFrom 0 t

/-- `SETGAM.TABLE t[0..n-1]` (30_encoding.md R87). -/
def setgamTable (t : List Byte) : List Instr := gtload t ++ [setgam (BitVec.ofNat 16 t.length)]

end Asm

end Sys2Proof
end

