-- ==== Sys2Proof/Config.lean ====
section
/-! DEFINITION. The configuration record `Cfg` (00_scope.md R7 to R14), its legality check, and the values the
spec leaves open: opaque constants about which nothing can be proved. -/

namespace Sys2Proof

/-- One `(u8, List u8)` tuple of the vendor block ROM (00_scope.md R11, 20_memory.md R50). -/
structure VendorEntry where
  cmd : Byte
  params : List Byte
  deriving DecidableEq, Repr

/-- The four supported rotations (00_scope.md R10, 43_orientation.md R140). -/
inductive Rotation where
  | r0 | r90 | r180 | r270
  deriving DecidableEq, Repr

/-- The configuration record of 00_scope.md R7 to R13. A `Cfg` has a meaning only when it is legal (R14):
the machine holds a `LegalCfg`. -/
structure Cfg where
  /-- `WIDTH` (R7). -/
  width : U16
  /-- `HEIGHT` (R7). -/
  height : U16
  /-- `BUS_WIDTH` (R7), on the 4-bit port `cfg_bus_width` (R35). -/
  busWidth : BitVec 4
  /-- `REG_WIDTH` (R7), on the 4-bit port `cfg_reg_width` (R35). -/
  regWidth : BitVec 4
  /-- `TXBUF_SIZE` (R7): OPEN; no rule of the block reads it, it only drives `cfg_txbuf_size` (R35). -/
  txbufSize : BitVec 32
  /-- `NUM_CURVES` (R8). -/
  numCurves : Nat
  /-- `NUM_VALUES` (R8). -/
  numValues : Nat
  /-- `CMD_SWRESET` (R9). -/
  cmdSwreset : Byte
  /-- `CMD_DISPOFF` (R9). -/
  cmdDispoff : Byte
  /-- `CMD_SLPOUT` (R9). -/
  cmdSlpout : Byte
  /-- `CMD_DISPON` (R9). -/
  cmdDispon : Byte
  /-- `CMD_CASET` (R9). -/
  cmdCaset : Byte
  /-- `CMD_RASET` (R9). -/
  cmdRaset : Byte
  /-- `CMD_RAMWR` (R9). -/
  cmdRamwr : Byte
  /-- `CMD_MADCTL` (R9). -/
  cmdMadctl : Byte
  /-- `CMD_GAMMA_BASE` (R9). -/
  cmdGammaBase : Byte
  /-- The MADCTL bit mask MY (R10, R81); the block sends none of the masks but `macBgr` (log 4). -/
  macMy : Byte
  /-- The MADCTL bit mask MX (R10, R14, R81). -/
  macMx : Byte
  /-- The MADCTL bit mask MV (R10, R81). -/
  macMv : Byte
  /-- The MADCTL bit mask ML (R10, R81). -/
  macMl : Byte
  /-- The MADCTL bit mask MH (R10, R81). -/
  macMh : Byte
  /-- `MAC_BGR` (R10). -/
  macBgr : Byte
  /-- `MAC_PAT(0)` (R10). -/
  macPat0 : Byte
  /-- `MAC_PAT(90)` (R10). -/
  macPat90 : Byte
  /-- `MAC_PAT(180)` (R10). -/
  macPat180 : Byte
  /-- `MAC_PAT(270)` (R10). -/
  macPat270 : Byte
  /-- `VENDOR_BLOCK` (R11): OPEN. -/
  vendorBlock : List VendorEntry
  /-- `T_SWRESET_MS` (R12). -/
  tSwresetMs : Nat
  /-- `T_SLPOUT_MS` (R12). -/
  tSlpoutMs : Nat
  /-- `T_DISPON_MS` (R12). -/
  tDisponMs : Nat
  /-- `CYCLES_PER_MS` (R12): OPEN. -/
  cyclesPerMs : Nat
  /-- `GT_DEPTH` (R13). -/
  gtDepth : Nat
  deriving DecidableEq, Repr

/-- `MAC_PAT : Rotation -> u8` (00_scope.md R10). -/
def Cfg.macPat (c : Cfg) : Rotation → Byte
  | .r0 => c.macPat0
  | .r90 => c.macPat90
  | .r180 => c.macPat180
  | .r270 => c.macPat270

/-- `N_VENDOR` (00_scope.md R11). -/
def Cfg.nVendor (c : Cfg) : Nat := c.vendorBlock.length

/-- `NUM_CURVES * NUM_VALUES`, on unbounded naturals (00_scope.md R15). -/
def Cfg.tableLen (c : Cfg) : Nat := c.numCurves * c.numValues

/-- The eight values `MAC_PAT(r) | (b ? MAC_BGR : 0)` of 00_scope.md R14. -/
def Cfg.macValues (c : Cfg) : List Byte :=
  [c.macPat0, c.macPat90, c.macPat180, c.macPat270,
   c.macPat0 ||| c.macBgr, c.macPat90 ||| c.macBgr, c.macPat180 ||| c.macBgr, c.macPat270 ||| c.macBgr]

/-- 00_scope.md R7: the geometry values come from the source and are normative (log 3). -/
def Cfg.legalGeometry (c : Cfg) : Bool :=
  c.width == 240#16 && c.height == 320#16 && c.busWidth == 9#4 && c.regWidth == 8#4

/-- 00_scope.md R14: `NUM_VALUES >= 15`. -/
def Cfg.legalValues (c : Cfg) : Bool := decide (15 ≤ c.numValues)

/-- 00_scope.md R14: `1 <= NUM_CURVES` and `CMD_GAMMA_BASE + NUM_CURVES - 1 <= 0xFF`, and no more: up to 256 curves.
DESIGN CHOICE (log 24): where such a number of curves breaks the bounds that 10_state.md R24 and R26 derive from INIT
alone (`len(PROG) <= N_VENDOR + 11 <= 254`, `WR_COUNT <= N_VENDOR + 7 <= 250`), R14 and 44_gamma.md R151 are followed,
and SETGAM's program has all its writes. -/
def Cfg.legalCurves (c : Cfg) : Bool :=
  decide (1 ≤ c.numCurves ∧ c.cmdGammaBase.toNat + c.numCurves - 1 ≤ 0xFF)

/-- 00_scope.md R14: `NUM_CURVES * NUM_VALUES <= GT_DEPTH <= 65536`. -/
def Cfg.legalDepth (c : Cfg) : Bool := decide (c.tableLen ≤ c.gtDepth ∧ c.gtDepth ≤ 65536)

/-- 00_scope.md R14: every vendor entry has at most 5 parameter bytes. -/
def Cfg.legalVendorParams (c : Cfg) : Bool := c.vendorBlock.all fun e => decide (e.params.length ≤ 5)

/-- 00_scope.md R14: `N_VENDOR <= 243`. -/
def Cfg.legalVendorLength (c : Cfg) : Bool := decide (c.vendorBlock.length ≤ 243)

/-- Does a byte have exactly one bit set? -/
def oneBit (v : Byte) : Bool :=
  [0x01#8, 0x02#8, 0x04#8, 0x08#8, 0x10#8, 0x20#8, 0x40#8, 0x80#8].contains v

/-- 00_scope.md R14, 43_orientation.md R143: `MAC_PAT(0) = MX`, "the bit mask for MX alone": one bit, at any position,
and, DEDUCED, no bit of MY, MV, ML or MH (log 4). -/
def Cfg.legalMx (c : Cfg) : Bool :=
  c.macPat0 == c.macMx && oneBit c.macMx && c.macMx &&& (c.macMy ||| c.macMv ||| c.macMl ||| c.macMh) == 0x00#8

/-- 00_scope.md R14: the eight MADCTL values are pairwise distinct. -/
def Cfg.legalMacDistinct (c : Cfg) : Bool := decide c.macValues.Nodup

/-- 00_scope.md R14, R12: each delay is at least its lower bound. -/
def Cfg.legalDelays (c : Cfg) : Bool :=
  decide (5 ≤ c.tSwresetMs ∧ 120 ≤ c.tSlpoutMs ∧ 20 ≤ c.tDisponMs)

/-- 00_scope.md R14: "A `Cfg` is legal only when all of these hold." -/
def Cfg.legal (c : Cfg) : Bool :=
  c.legalGeometry && c.legalValues && c.legalCurves && c.legalDepth && c.legalVendorParams
    && c.legalVendorLength && c.legalMx && c.legalMacDistinct && c.legalDelays

/-- A configuration with its legality (00_scope.md R14): "A model refuses an illegal `Cfg`", so no state can hold
one. -/
abbrev LegalCfg := { c : Cfg // c.legal = true }

/-- Admits a configuration, or refuses it (00_scope.md R14). -/
def Cfg.toLegal (c : Cfg) : Option LegalCfg :=
  if h : c.legal = true then some ⟨c, h⟩ else none

/-- The default values of 00_scope.md R7 to R10, R12 and R13, over the three OPEN fields. The command codes and the
MADCTL values are PRESUMED (the spec marks them general knowledge; log 1). -/
def Cfg.defaults (vendor : List VendorEntry) (txbuf : BitVec 32) (cyclesPerMs : Nat) : Cfg where
  width := 240#16
  height := 320#16
  busWidth := 9#4
  regWidth := 8#4
  txbufSize := txbuf
  numCurves := 2
  numValues := 15
  cmdSwreset := 0x01#8
  cmdDispoff := 0x28#8
  cmdSlpout := 0x11#8
  cmdDispon := 0x29#8
  cmdCaset := 0x2A#8
  cmdRaset := 0x2B#8
  cmdRamwr := 0x2C#8
  cmdMadctl := 0x36#8
  cmdGammaBase := 0xE0#8
  macMy := 0x80#8
  macMx := 0x40#8
  macMv := 0x20#8
  macMl := 0x10#8
  macMh := 0x04#8
  macBgr := 0x08#8
  macPat0 := 0x40#8
  macPat90 := 0xE0#8
  macPat180 := 0x80#8
  macPat270 := 0x30#8
  vendorBlock := vendor
  tSwresetMs := 5
  tSlpoutMs := 120
  tDisponMs := 20
  cyclesPerMs := cyclesPerMs
  gtDepth := 30

/-- A default configuration is legal exactly when its vendor block is. -/
theorem Cfg.legal_defaults (vendor : List VendorEntry) (txbuf : BitVec 32) (cpm : Nat)
    (hp : (vendor.all fun e => decide (e.params.length ≤ 5)) = true) (hl : vendor.length ≤ 243) :
    (Cfg.defaults vendor txbuf cpm).legal = true := by
  have h0 : (Cfg.defaults [] 0 0).legal = true := by decide
  have h : (Cfg.defaults [] txbuf cpm).legal = true := h0
  simp only [Cfg.legal, Bool.and_eq_true] at h ⊢
  obtain ⟨⟨⟨⟨⟨⟨⟨⟨h1, h2⟩, h3⟩, h4⟩, -⟩, -⟩, h7⟩, h8⟩, h9⟩ := h
  exact ⟨⟨⟨⟨⟨⟨⟨⟨h1, h2⟩, h3⟩, h4⟩, hp⟩, decide_eq_true hl⟩, h7⟩, h8⟩, h9⟩

namespace Config

/-- OPEN (00_scope.md R11, 93 U13): a list of command and parameter bytes of which nothing is known. -/
opaque vendorRaw : List VendorEntry

/-- OPEN (00_scope.md R7, 93 U15). -/
opaque txbufSize : BitVec 32

/-- OPEN (00_scope.md R12, 93 U15). -/
opaque cyclesPerMs : Nat

/-- The n-th free draw, of any 8-bit value: the byte that a read of a never-written entry of `GT` sends (20_memory.md
R53, 93 U6; log 5), or `SEQ_IDX` or `WR_COUNT` after an increment that no 8-bit value can show (log 24). -/
opaque freeByte : Nat → Byte

/-- `VENDOR_BLOCK` at reset: the open list cut to the bounds of 00_scope.md R14, so that every legal table is a
possible value of it (log 2). -/
def vendorBlock : List VendorEntry :=
  (vendorRaw.take 243).map fun e => { e with params := e.params.take 5 }

/-- The configuration of `State.reset`. -/
def cfg : LegalCfg :=
  ⟨Cfg.defaults vendorBlock txbufSize cyclesPerMs, by
    refine Cfg.legal_defaults _ _ _ ?_ ?_
    · simp only [vendorBlock, List.all_map, List.all_eq_true]
      intro e _
      simp only [Function.comp_apply, List.length_take, decide_eq_true_eq]
      omega
    · simp only [vendorBlock, List.length_map, List.length_take]
      omega⟩

end Config

end Sys2Proof
end

