-- ==== Sys2Proof/Machine/State.lean ====
section
/-! DEFINITION. The state of the block (10_state.md), of its ports, and of the outside that drives them; the reasons
a step can stop; the machine right after reset. -/

namespace Sys2Proof.Machine

/-- Why the machine stops. Both name states that no run from `State.reset` reaches: the spec gives such a state no
step and no effect, and no instruction's meaning raises either. -/
inductive Fault where
  /-- Raised by the sequencer's issue step when `SEQ_IDX > len(PROG)`: 10_state.md R23 keeps it in `[0, len(PROG)]`,
  and neither 40_sequencer.md R92 nor R93 is enabled. Safe: the model stops where no rule gives a step. -/
  | seqPastEnd
  /-- Raised by the wait step when `PHASE = AWAIT` and `PROG` has no action at `SEQ_IDX`: 10_state.md R31 has one
  action outstanding in AWAIT. Safe, for the same reason. -/
  | awaitNothing
  deriving DecidableEq, Repr

/-- Why an instruction has no meaning. -/
inductive Refusal where
  /-- Reserved for an arm of `exec` whose instruction has no meaning yet. No arm answers it: every instruction has
  its meaning. Safe: it claims nothing of the instruction. -/
  | notModelled (mnemonic : String)
  deriving DecidableEq, Repr

/-- `PHASE` (10_state.md R20). -/
inductive Phase where
  | idle | issue | await
  deriving DecidableEq, Repr

/-- The completion codes of 60_exceptions.md R170. The codes 5 to 7 are never produced. -/
inductive Code where
  | ok | hwError | unsupportedRotation | invalidTable | illegalOp
  deriving DecidableEq, Repr

/-- The channel's answer to one write (40_sequencer.md R96, R97). -/
inductive Answer where
  | ok | ioError
  deriving DecidableEq, Repr

/-- One action of an action program (00_scope.md R17). -/
inductive Action where
  | hwReset
  | write (cmd : Byte) (params : List Byte)
  | wait (ms : Nat)
  deriving DecidableEq, Repr

/-- One event of the trace (00_scope.md R18). -/
inductive Event where
  | accept (op : U4) (a b c d : U16)
  | gtWrite (addr : U16) (data : Byte)
  | reset
  | write (cmd : Byte) (params : List Byte) (result : Answer)
  | wait (ms : Nat)
  | done (code : Code)
  | blockReset
  deriving DecidableEq, Repr

/-- What the outside does in one cycle: the input ports of 30_encoding.md R82 (`rst_n`, a word the host begins to
present, `ch_done` with `ch_err`, `rst_done`) and the delay timer's freedom to end a wait late (40_sequencer.md
R99). -/
structure Inputs where
  /-- `rst_n = 0` in this cycle: block reset is applied. -/
  blockReset : Bool
  /-- The host begins to present this request word. -/
  req : Option ReqWord
  /-- The host begins to present this gamma table port word. -/
  gt : Option GtWord
  /-- `ch_done`. -/
  chDone : Bool
  /-- `ch_err`, read only with `ch_done`. -/
  chErr : Bool
  /-- `rst_done`. -/
  rstDone : Bool
  /-- The delay timer lets a wait that could end now go on. -/
  timerLate : Bool
  deriving DecidableEq, Repr

/-- A cycle in which the outside does nothing. -/
def Inputs.quiet : Inputs := ⟨false, none, none, false, false, false, false⟩

/-- The whole state. `prog[seqIdx]` is the outstanding action while `phase = await` (10_state.md R31); `STATUS.BUSY`,
`req_ready`, `gt_ready` and the constant outputs are views of these fields (Machine/Flags.lean). -/
structure State where
  /-- The configuration (00_scope.md R7 to R14); no step writes it. -/
  cfg : LegalCfg
  /-- `PHASE` (10_state.md R20). -/
  phase : Phase
  /-- `OP` (10_state.md R21). -/
  op : U4
  /-- `OPA` (10_state.md R22). -/
  opa : U16
  /-- `OPB` (10_state.md R22). -/
  opb : U16
  /-- `OPC`, the latch of operand C (10_state.md R22, 90_conflicts.md C10). -/
  opc : U16
  /-- `OPD` (10_state.md R22). -/
  opd : U16
  /-- `SEQ_IDX` (10_state.md R23). -/
  seqIdx : BitVec 8
  /-- The model's own: all 256 actions of a SETGAM of 256 curves are done, which no 8-bit `SEQ_IDX` can show (log 24). -/
  seqPast : Bool
  /-- `PROG` (10_state.md R24). -/
  prog : List Action
  /-- `END_CODE` (10_state.md R39). -/
  endCode : Code
  /-- `STATUS.CODE` (10_state.md R26, R27). -/
  code : Code
  /-- `STATUS.WR_COUNT` (10_state.md R28). -/
  wrCount : BitVec 8
  /-- `STATUS.LAST_CMD` (10_state.md R29). -/
  lastCmd : Byte
  /-- The `done` output (10_state.md R30). -/
  done : Bool
  /-- `WAIT_CTR` (10_state.md R25). -/
  waitCtr : Nat
  /-- The `ch_valid` output (30_encoding.md R82, R83). -/
  chValid : Bool
  /-- The `ch_cmd` output (30_encoding.md R79). -/
  chCmd : Byte
  /-- The `ch_nparams` output (30_encoding.md R79). -/
  chNparams : BitVec 4
  /-- The `ch_params` output (30_encoding.md R79). -/
  chParams : BitVec 120
  /-- The `rst_req` output (30_encoding.md R82, R83). -/
  rstReq : Bool
  /-- The gamma table memory `GT` (20_memory.md R51): the entries that hold a value, by strictly rising index. -/
  gt : List Host.Cell
  /-- The model's own: how many free draws have been taken (log 5, log 24). -/
  draws : Nat
  /-- The event trace (00_scope.md R18), oldest event first. -/
  trace : List Event
  /-- The model's own: for each block reset applied, oldest first, the outstanding action it dropped, if there was one
  (70_reset_and_hazards.md R191; log 25). -/
  abandoned : List (Option Action)
  /-- The outside: request words presented and held, the one on `req_word` first (30_encoding.md R83; log 7). -/
  reqQ : List ReqWord
  /-- The outside: GT words presented and held, the one on `gt_word` first (30_encoding.md R83; log 7). -/
  gtQ : List GtWord
  /-- The outside: the cycles to come; when none is listed the outside is quiet (log 6). -/
  env : List Inputs
  deriving DecidableEq, Repr

/-- The configuration, without its proof of legality. -/
abbrev State.conf (s : State) : Cfg := s.cfg.val

/-- The machine right after reset, with the values of 10_state.md R38: `GT` holds no value anywhere (20_memory.md
R53), nothing is presented, the trace is empty. DESIGN CHOICE for `chCmd`, `chNparams`, `chParams` (log 12),
`trace` (log 11), `draws` (log 5), `seqPast` (log 24) and `abandoned` (log 25). -/
def State.reset : State where
  cfg := Config.cfg
  phase := .idle
  op := 0
  opa := 0
  opb := 0
  opc := 0
  opd := 0
  seqIdx := 0
  seqPast := false
  prog := []
  endCode := .ok
  code := .ok
  wrCount := 0
  lastCmd := 0
  done := false
  waitCtr := 0
  chValid := false
  chCmd := 0
  chNparams := 0
  chParams := 0
  rstReq := false
  gt := []
  draws := 0
  trace := []
  abandoned := []
  reqQ := []
  gtQ := []
  env := []

end Sys2Proof.Machine
end

