-- ==== Sys2Proof/Machine/Operands.lean ====
section
/-! DEFINITION. The operand forms: the byte split of a coordinate, the rotation lookup, the colour-order bit, the
table indices of a curve, the layout of a channel transaction. -/

namespace Sys2Proof.Machine

/-- `v[15:8]` (42_window.md R131). -/
def hiByte (v : U16) : Byte := v.extractLsb' 8 8

/-- `v[7:0]` (42_window.md R131). -/
def loByte (v : U16) : Byte := v.extractLsb' 0 8

/-- A start and an end coordinate as four parameter bytes, high byte first (20_memory.md R56, 30_encoding.md R80). -/
def coordPair (first last : U16) : List Byte := [hiByte first, loByte first, hiByte last, loByte last]

/-- The rotation an operand in degrees selects; every other value is unsupported, with no modulo
(30_encoding.md R74, 43_orientation.md R142, R146). -/
def selectRotation (deg : U16) : Option Rotation :=
  if deg = 0#16 then some .r0
  else if deg = 90#16 then some .r90
  else if deg = 180#16 then some .r180
  else if deg = 270#16 then some .r270
  else none

/-- `bgr = D[0]` (30_encoding.md R74). -/
def bgrOf (d : U16) : Bool := d.getLsbD 0

/-- `MacValue(rot, bgr)` (43_orientation.md R141). -/
def macValue (c : Cfg) (rot : Rotation) (bgr : Bool) : Byte :=
  c.macPat rot ||| (if bgr then c.macBgr else 0x00#8)

/-- The `GT` indices of the 15 bytes of a curve write (20_memory.md R54, 44_gamma.md R153, R155). -/
def curveIndices (c : Cfg) (i : Nat) : List Nat := (List.range 15).map fun j => i * c.numValues + j

/-- The command of curve `i` (44_gamma.md R153): an 8-bit sum that never wraps under 00_scope.md R14. -/
def curveCmd (c : Cfg) (i : Nat) : Byte := c.cmdGammaBase + BitVec.ofNat 8 i

/-- `ch_params`: `params[k]` at bits `[8k+7 : 8k]`, every other bit 0 (30_encoding.md R79). -/
def packParams : List Byte → BitVec 120
  | [] => 0
  | p :: ps => (packParams ps <<< 8) ||| p.setWidth 120

/-- `ch_nparams` (30_encoding.md R79). -/
def countParams (params : List Byte) : BitVec 4 := BitVec.ofNat 4 params.length

/-- The bytes of a transaction in the order the channel sends them (20_memory.md R56): command, then parameters. -/
def wireBytes (cmd : Byte) (params : List Byte) : List Byte := cmd :: params

end Sys2Proof.Machine
end

