-- ==== Sys2Proof/Machine/Flags.lean ====
section
/-! DEFINITION. The status word and the other outputs as views of the state, the numeric codes, and `ARMED`. -/

namespace Sys2Proof.Machine

/-- The 2-bit encoding of `PHASE` (10_state.md R20); the value 3 is never reached. -/
def Phase.bits : Phase → BitVec 2
  | .idle => 0
  | .issue => 1
  | .await => 2

/-- The 3-bit completion codes (60_exceptions.md R170). -/
def Code.bits : Code → BitVec 3
  | .ok => 0
  | .hwError => 1
  | .unsupportedRotation => 2
  | .invalidTable => 3
  | .illegalOp => 4

/-- `STATUS.BUSY`: 1 iff `PHASE != IDLE` (10_state.md R26). -/
def State.busy (s : State) : Bool := s.phase != .idle

/-- The number of actions done: `SEQ_IDX`, or 256 once the last of 256 actions is done (10_state.md R23; log 24). -/
def State.position (s : State) : Nat := if s.seqPast then 256 else s.seqIdx.toNat

/-- The action at `SEQ_IDX`: the next to present, or the outstanding one (10_state.md R23). -/
def State.current (s : State) : Option Action := s.prog[s.position]?

/-- The outstanding action: while `PHASE = AWAIT` the action at `SEQ_IDX`, otherwise none (10_state.md R31). -/
def State.outstanding (s : State) : Option Action :=
  match s.phase with
  | .idle => none
  | .issue => none
  | .await => s.current

/-- `req_ready` (30_encoding.md R82): `PHASE = IDLE`. -/
def State.reqReady (s : State) : Bool := s.phase == .idle

/-- `gt_ready` (30_encoding.md R82): `PHASE = IDLE`. -/
def State.gtReady (s : State) : Bool := s.phase == .idle

/-- `STATUS` (10_state.md R26): reserved bits read 0, then `LAST_CMD`, `WR_COUNT`, reserved, `BUSY`, `CODE`. -/
def State.status (s : State) : BitVec 32 :=
  (0#8 ++ s.lastCmd ++ s.wrCount ++ 0#4 ++ BitVec.ofBool s.busy ++ s.code.bits : BitVec (8 + 8 + 8 + 4 + 1 + 3))

/-- `cfg_width` (10_state.md R35). -/
def State.cfgWidth (s : State) : BitVec 16 := s.conf.width

/-- `cfg_height` (10_state.md R35). -/
def State.cfgHeight (s : State) : BitVec 16 := s.conf.height

/-- `cfg_bus_width` (10_state.md R35). -/
def State.cfgBusWidth (s : State) : BitVec 4 := s.conf.busWidth

/-- `cfg_reg_width` (10_state.md R35). -/
def State.cfgRegWidth (s : State) : BitVec 4 := s.conf.regWidth

/-- `cfg_txbuf_size` (10_state.md R35). -/
def State.cfgTxbufSize (s : State) : BitVec 32 := s.conf.txbufSize

/-- `WR_COUNT + 1` (10_state.md R28, 40_sequencer.md R95) and the draw counter after it. Past 255, which R26 says the
count never is, but which the 256th write of a SETGAM of 256 curves would be, no 8-bit value is the count, and a free
value stands there (log 24). -/
def countWrite (wrCount : BitVec 8) (draws : Nat) : BitVec 8 × Nat :=
  if wrCount = 255 then (Config.freeByte draws, draws + 1) else (wrCount + 1, draws)

/-- `SEQ_IDX + 1` (10_state.md R23, 40_sequencer.md R96, R98, R99), `seqPast` and the draw counter after it. Past 255,
which R23 says the pointer never is, but which the last action of a SETGAM of 256 curves would make it, no 8-bit value
is the index, and a free value stands there (log 24). -/
def advanceIdx (seqIdx : BitVec 8) (seqPast : Bool) (draws : Nat) : BitVec 8 × Bool × Nat :=
  if seqIdx = 255 then (Config.freeByte draws, true, draws + 1) else (seqIdx + 1, seqPast, draws)

/-- What one event does to the armed state (10_state.md R33): a write arms it exactly when it is a successful
`CMD_RAMWR` with no parameters, a reset of the controller or of the block ends it, nothing else touches it. -/
def armStep (cmdRamwr : Byte) (armed : Bool) : Event → Bool
  | .write cmd params result => cmd == cmdRamwr && params == [] && result == .ok
  | .reset => false
  | .blockReset => false
  | .accept _ _ _ _ _ => armed
  | .gtWrite _ _ => armed
  | .wait _ => armed
  | .done _ => armed

/-- `ARMED` of a trace (10_state.md R33). -/
def armedTrace (cmdRamwr : Byte) (trace : List Event) : Bool := trace.foldl (armStep cmdRamwr) false

/-- `ARMED` (10_state.md R33): a predicate on the trace, not a register. -/
def State.armed (s : State) : Bool := armedTrace s.conf.cmdRamwr s.trace

end Sys2Proof.Machine
end

