-- ==== Sys2Proof/Machine/Ops.lean ====
section
/-! DEFINITION. The named operations: the gamma table memory, the trace, accept (40_sequencer.md R90), completion
(R100, the one way an operation ends, with or without an error), block reset (70_reset_and_hazards.md R190). -/

namespace Sys2Proof.Machine

/-- One entry of a memory: what an index that is not listed reads as is no value (20_memory.md R53). -/
def Memory.read : List Host.Cell → Nat → Option Byte
  | [], _ => none
  | (j, v) :: m, i => if j = i then some v else Memory.read m i

/-- Stores `v` at index `i`, keeping the indices strictly rising. -/
def Memory.write : List Host.Cell → Nat → Byte → List Host.Cell
  | [], i, v => [(i, v)]
  | (j, u) :: m, i, v =>
    if i < j then (i, v) :: (j, u) :: m
    else if i = j then (i, v) :: m
    else (j, u) :: Memory.write m i v

/-- `MemWrite(GT, i, 1, v)` (20_memory.md R52): an index at or above `GT_DEPTH` is dropped. -/
def Memory.store (depth : Nat) (m : List Host.Cell) (i : Nat) (v : Byte) : List Host.Cell :=
  if i < depth then Memory.write m i v else m

/-- Every listed index is at least `lo`, and they rise strictly. -/
def Memory.rising : Nat → List Host.Cell → Bool
  | _, [] => true
  | lo, (j, _) :: m => decide (lo ≤ j) && Memory.rising (j + 1) m

/-- The canonical form: indices strictly rising, all below `depth` (20_memory.md R50). A listed index always differs
from an unlisted one, which reads as no value. -/
def Memory.wf (depth : Nat) (m : List Host.Cell) : Bool :=
  Memory.rising 0 m && m.all fun c => decide (c.1 < depth)

/-- `MemRead(GT, i, 1)` by SETGAM (20_memory.md R51, R53): the entry's byte, or a free draw when nothing has written
the entry. Answers the byte and the draw counter. -/
def readGt (gt : List Host.Cell) (i n : Nat) : Byte × Nat :=
  match Memory.read gt i with
  | some v => (v, n)
  | none => (Config.freeByte n, n + 1)

/-- Reads a list of entries in order. -/
def readGts (gt : List Host.Cell) : List Nat → Nat → List Byte × Nat
  | [], n => ([], n)
  | i :: is, n =>
    ((readGt gt i n).1 :: (readGts gt is (readGt gt i n).2).1, (readGts gt is (readGt gt i n).2).2)

/-- Records an event (00_scope.md R18). -/
def record (e : Event) (s : State) : State := { s with trace := s.trace ++ [e] }

/-- What a program builder returns (40_sequencer.md R91): the program, the code to report if it runs to its end, and
the draw counter after the builder's reads. -/
structure Built where
  prog : List Action
  endCode : Code
  draws : Nat
  deriving DecidableEq, Repr

/-- A builder's answer when a check fails (40_sequencer.md R91): the empty program with its rejection code. -/
def Built.reject (code : Code) (s : State) : Built := ⟨[], code, s.draws⟩

/-- A builder's answer for a program that reads no memory: it ends OK (10_state.md R39). -/
def Built.program (prog : List Action) (s : State) : Built := ⟨prog, .ok, s.draws⟩

/-- The body of accept (40_sequencer.md R90), with the builder's answer. `STATUS.CODE` does not change. -/
def launch (op : U4) (a b c d : U16) (built : Built) (s : State) : State :=
  { s with
    op := op
    opa := a
    opb := b
    opc := c
    opd := d
    wrCount := 0
    lastCmd := 0
    trace := s.trace ++ [.accept op a b c d]
    prog := built.prog
    endCode := built.endCode
    draws := built.draws
    seqIdx := 0
    seqPast := false
    phase := .issue }

/-- Accept (40_sequencer.md R90), enabled exactly when `PHASE = IDLE`. Otherwise no handshake takes place: the host
holds its word and the block does nothing with it (30_encoding.md R83; log 8). -/
def accept (op : U4) (a b c d : U16) (built : Built) (s : State) : Host.Outcome State Fault Refusal :=
  match s.phase with
  | .idle => .next (launch op a b c d built s)
  | .issue => .next s
  | .await => .next s

/-- A gamma table port write (44_gamma.md R150), enabled exactly when `PHASE = IDLE`; otherwise the host holds its
word (20_memory.md R58). -/
def gtWrite (addr : U16) (data : Byte) (s : State) : Host.Outcome State Fault Refusal :=
  match s.phase with
  | .idle =>
    .next (record (.gtWrite addr data) { s with gt := Memory.store s.conf.gtDepth s.gt addr.toNat data })
  | .issue => .next s
  | .await => .next s

/-- `complete(code)` (40_sequencer.md R100). It is the whole of error entry too (60_exceptions.md R177): there is no
vector, no handler, no saved pointer and no return (R178). -/
def complete (code : Code) (s : State) : State :=
  record (.done code)
    { s with
      code := code
      prog := []
      seqIdx := 0
      seqPast := false
      phase := .idle
      done := true }

/-- Block reset (70_reset_and_hazards.md R190, R191): every register takes its reset value, `GT` keeps its contents,
no `EvDone` is recorded; the outstanding action is dropped, and what it was is noted, since any prefix of an outstanding
write may have reached the controller (R191; log 25). The configuration, the trace, the draw counter and the outside
are not registers of the block (log 18). -/
def blockReset (s : State) : State :=
  record .blockReset
    { State.reset with
      cfg := s.cfg
      gt := s.gt
      draws := s.draws
      trace := s.trace
      abandoned := s.abandoned ++ [s.outstanding]
      reqQ := s.reqQ
      gtQ := s.gtQ
      env := s.env }

end Sys2Proof.Machine
end

