-- ==== Sys2Proof/Machine/Gamma.lean ====
section
/-! DEFINITION. GTWR and SETGAM, the Gamma Programmer (44_gamma.md). -/

namespace Sys2Proof.Machine

/-- The curve writes of 44_gamma.md R151 for a list of curves: each carries the 15 bytes of its curve, read from `GT`
at accept (R156). Answers the writes and the draw counter. -/
def curveWrites (c : Cfg) (gt : List Host.Cell) : List Nat → Nat → List Action × Nat
  | [], n => ([], n)
  | i :: is, n =>
    (.write (curveCmd c i) (readGts gt (curveIndices c i) n).1
      :: (curveWrites c gt is (readGts gt (curveIndices c i) n).2).1,
     (curveWrites c gt is (readGts gt (curveIndices c i) n).2).2)

/-- `GamBuild(len, GT)` (44_gamma.md R151, R152): the length is compared as a natural number (00_scope.md R15). -/
def gamBuild (len : U16) (s : State) : Built :=
  if len.toNat = s.conf.tableLen then
    ⟨(curveWrites s.conf s.gt (List.range s.conf.numCurves) s.draws).1, .ok,
     (curveWrites s.conf s.gt (List.range s.conf.numCurves) s.draws).2⟩
  else Built.reject .invalidTable s

/-- `SETGAM` (44_gamma.md R151, accepted by 40_sequencer.md R90). -/
def execSetgam (len b c d : U16) (s : State) : Host.Outcome State Fault Refusal :=
  accept 0x4 len b c d (gamBuild len s) s

/-- `GTWR` (44_gamma.md R150). -/
def execGtwr (addr : U16) (data : Byte) (s : State) : Host.Outcome State Fault Refusal := gtWrite addr data s

end Sys2Proof.Machine
end

