-- ==== Sys2Proof/Machine/Window.lean ====
section
/-! DEFINITION. SETWIN, the Addressing Window Programmer (42_window.md). -/

namespace Sys2Proof.Machine

/-- `WinProg(xs, ys, xe, ye)` (42_window.md R130): column, row, memory write; no validation (R132). -/
def winProg (c : Cfg) (xs ys xe ye : U16) : List Action :=
  [.write c.cmdCaset (coordPair xs xe), .write c.cmdRaset (coordPair ys ye), .write c.cmdRamwr []]

/-- `SETWIN` (42_window.md R130, accepted by 40_sequencer.md R90). -/
def execSetwin (xStart yStart xEnd yEnd : U16) (s : State) : Host.Outcome State Fault Refusal :=
  accept 0x2 xStart yStart xEnd yEnd (Built.program (winProg s.conf xStart yStart xEnd yEnd) s) s

end Sys2Proof.Machine
end

