-- ==== Sys2Proof/Machine/Initializer.lean ====
section
/-! DEFINITION. INIT, the Controller Initializer (41_initializer.md). -/

namespace Sys2Proof.Machine

/-- Step 4 of INIT (41_initializer.md R115): the vendor block, entry by entry, verbatim. -/
def vendorWrites (c : Cfg) : List Action := c.vendorBlock.map fun e => .write e.cmd e.params

/-- `InitProg` (41_initializer.md R111), steps 1 to 7. -/
def initProg (c : Cfg) : List Action :=
  [.hwReset]
    ++ [.write c.cmdSwreset [], .wait c.tSwresetMs]
    ++ [.write c.cmdDispoff []]
    ++ vendorWrites c
    ++ [.write c.cmdSlpout [], .wait c.tSlpoutMs]
    ++ [.write c.cmdDispon [], .wait c.tDisponMs]
    ++ winProg c 0 0 (c.width - 1) (c.height - 1)

/-- `INIT` (41_initializer.md R110, R111, accepted by 40_sequencer.md R90); its operand fields are only latched. -/
def execInit (a b c d : U16) (s : State) : Host.Outcome State Fault Refusal :=
  accept 0x1 a b c d (Built.program (initProg s.conf) s) s

end Sys2Proof.Machine
end

