-- ==== Sys2Proof/Machine/Orientation.lean ====
section
/-! DEFINITION. SETORI, the Orientation Configurator (43_orientation.md). -/

namespace Sys2Proof.Machine

/-- `OriBuild(rot, bgr)` (43_orientation.md R140, R142). -/
def oriBuild (deg : U16) (bgr : Bool) (s : State) : Built :=
  match selectRotation deg with
  | some rot => Built.program [.write s.conf.cmdMadctl [macValue s.conf rot bgr]] s
  | none => Built.reject .unsupportedRotation s

/-- `SETORI` (43_orientation.md R140, accepted by 40_sequencer.md R90). -/
def execSetori (rotation b c d : U16) (s : State) : Host.Outcome State Fault Refusal :=
  accept 0x3 rotation b c d (oriBuild rotation (bgrOf d) s) s

end Sys2Proof.Machine
end

