-- ==== Sys2Proof/Machine/Reserved.lean ====
section
/-! DEFINITION. The reserved operation codes (30_encoding.md R76, 60_exceptions.md R174). -/

namespace Sys2Proof.Machine

/-- `RSV` (30_encoding.md R76): accepted like any request, no action, completes with `ILLEGAL_OP`. -/
def execRsv (opc : U4) (a b c d : U16) (s : State) : Host.Outcome State Fault Refusal :=
  accept opc a b c d (Built.reject .illegalOp s) s

end Sys2Proof.Machine
end

