-- ==== Sys2Proof/Machine/Dispatch.lean ====
section
/-! DEFINITION. The meaning of every instruction: one arm per constructor of Instr. -/

namespace Sys2Proof.Machine

def exec (i : Instr) (s : State) : Host.Outcome State Fault Refusal :=
  match i with
  | .init a b c d => Sys2Proof.Machine.execInit a b c d s
  | .setwin xStart yStart xEnd yEnd => Sys2Proof.Machine.execSetwin xStart yStart xEnd yEnd s
  | .setori rotation b c d => Sys2Proof.Machine.execSetori rotation b c d s
  | .setgam len b c d => Sys2Proof.Machine.execSetgam len b c d s
  | .rsv opc a b c d => Sys2Proof.Machine.execRsv opc a b c d s
  | .gtwr addr data => Sys2Proof.Machine.execGtwr addr data s

end Sys2Proof.Machine
end

