-- ==== Sys2Proof/Machine/Sequencer.lean ====
section
/-! DEFINITION. The action sequencer: presenting an action, the agents' answers, program end (40_sequencer.md R92 to
R99). -/

namespace Sys2Proof.Machine

/-- Presenting `Write(cmd, params)` (40_sequencer.md R95, 30_encoding.md R79). -/
def presentWrite (cmd : Byte) (params : List Byte) (s : State) : State :=
  { s with
    wrCount := (countWrite s.wrCount s.draws).1
    draws := (countWrite s.wrCount s.draws).2
    lastCmd := cmd
    chCmd := cmd
    chNparams := countParams params
    chParams := packParams params
    chValid := true
    phase := .await }

/-- Presenting `HwReset` (40_sequencer.md R98). -/
def presentReset (s : State) : State := { s with rstReq := true, phase := .await }

/-- Presenting `Wait(ms)` (40_sequencer.md R99). -/
def presentWait (ms : Nat) (s : State) : State :=
  { s with waitCtr := ms * s.conf.cyclesPerMs, phase := .await }

/-- Presents an action to its agent (40_sequencer.md R93). -/
def present (act : Action) (s : State) : State :=
  match act with
  | .hwReset => presentReset s
  | .write cmd params => presentWrite cmd params s
  | .wait ms => presentWait ms s

/-- The outstanding action is done (40_sequencer.md R96, R98, R99): `SEQ_IDX <- SEQ_IDX + 1`, `PHASE <- ISSUE`. -/
def advance (s : State) : State :=
  { s with
    seqIdx := (advanceIdx s.seqIdx s.seqPast s.draws).1
    seqPast := (advanceIdx s.seqIdx s.seqPast s.draws).2.1
    draws := (advanceIdx s.seqIdx s.seqPast s.draws).2.2
    phase := .issue }

/-- `channel_ok` (40_sequencer.md R96). -/
def channelOk (cmd : Byte) (params : List Byte) (s : State) : State :=
  advance (record (.write cmd params .ok) { s with chValid := false })

/-- `channel_err` (40_sequencer.md R97): nothing after the failed write is presented. -/
def channelErr (cmd : Byte) (params : List Byte) (s : State) : State :=
  complete .hwError (record (.write cmd params .ioError) { s with chValid := false })

/-- `reset_done` (40_sequencer.md R98). -/
def resetDone (s : State) : State := advance (record .reset { s with rstReq := false })

/-- `wait_done` (40_sequencer.md R99). -/
def waitDone (ms : Nat) (s : State) : State := advance (record (.wait ms) s)

/-- The block's step in ISSUE: present the action at `SEQ_IDX` (40_sequencer.md R93), or complete at the program's
end (R92). -/
def issueStep (s : State) : Host.Outcome State Fault Refusal :=
  match s.current with
  | some act => .next (present act s)
  | none => if s.position = s.prog.length then .next (complete s.endCode s) else .fault .seqPastEnd

/-- A cycle in AWAIT (40_sequencer.md R94): only the agent that holds the outstanding action can move the block. The
channel answers with `ch_done`, the reset function with `rst_done`; an answer with no matching request outstanding
is ignored (30_encoding.md R83). `WAIT_CTR` counts down once per cycle, and at zero the wait may end (10_state.md
R25, 40_sequencer.md R99). With no answer the block stays as it is, for ever if none comes (R103; log 17). -/
def awaitStep (inp : Inputs) (s : State) : Host.Outcome State Fault Refusal :=
  match s.current with
  | some (.write cmd params) =>
    if inp.chDone then
      if inp.chErr then .next (channelErr cmd params s) else .next (channelOk cmd params s)
    else .next s
  | some .hwReset => if inp.rstDone then .next (resetDone s) else .next s
  | some (.wait ms) =>
    if s.waitCtr = 0 then
      if inp.timerLate then .next s else .next (waitDone ms s)
    else .next { s with waitCtr := s.waitCtr - 1 }
  | none => .fault .awaitNothing

end Sys2Proof.Machine
end

