-- ==== Sys2Proof/Machine/Ports.lean ====
section
/-! DEFINITION. The input ports in one cycle: what the outside presents, and the request and GT handshakes in IDLE
(30_encoding.md R82, R83). -/

namespace Sys2Proof.Machine

/-- What the outside does in the coming cycle; quiet when nothing is listed. -/
def State.inputs (s : State) : Inputs :=
  match s.env with
  | [] => Inputs.quiet
  | inp :: _ => inp

/-- The start of a cycle: words newly presented stand behind those the host still holds, and `done`, a one-cycle
pulse, falls (10_state.md R30). -/
def beginCycle (s : State) : State :=
  { s with
    done := false
    reqQ := s.reqQ ++ s.inputs.req.toList
    gtQ := s.gtQ ++ s.inputs.gt.toList
    env := s.env.tail }

/-- The GT handshake (30_encoding.md R83): the word on `gt_word` transfers and is executed. -/
def takeGt (s : State) : Host.Outcome State Fault Refusal :=
  match s.gtQ with
  | [] => .next s
  | w :: rest => exec (decode (.gt w)) { s with gtQ := rest }

/-- The request handshake (30_encoding.md R83, 40_sequencer.md R90): the word on `req_word` transfers and is
executed. -/
def takeReq (s : State) : Host.Outcome State Fault Refusal :=
  match s.reqQ with
  | [] => .next s
  | w :: rest => exec (decode (.req w)) { s with reqQ := rest }

/-- A cycle in IDLE (30_encoding.md R83): each port transfers the word presented on it; when both do, the GT write
takes effect first, so the request sees it. -/
def idleStep (s : State) : Host.Outcome State Fault Refusal :=
  match takeGt s with
  | .next t => takeReq t
  | .fault r => .fault r
  | .refused r => .refused r

/-- One clock cycle. Block reset wins over every handshake and answer (60_exceptions.md R176); otherwise the phase
says who can move (40_sequencer.md R90 to R99). -/
def cycle (s : State) : Host.Outcome State Fault Refusal :=
  if s.inputs.blockReset then .next (blockReset (beginCycle s))
  else
    match s.phase with
    | .idle => idleStep (beginCycle s)
    | .issue => issueStep (beginCycle s)
    | .await => awaitStep s.inputs (beginCycle s)

/-- Presents one word so that the next cycle transfers it and it alone: the block is made ready, the cycle is quiet,
and nothing else is presented before it (log 16). -/
def presentWord (p : PortWord) (s : State) : State :=
  match p with
  | .req w => { s with phase := .idle, reqQ := w :: s.reqQ, gtQ := [], env := Inputs.quiet :: s.env }
  | .gt w => { s with phase := .idle, reqQ := [], gtQ := w :: s.gtQ, env := Inputs.quiet :: s.env }

end Sys2Proof.Machine
end

