-- ==== Sys2Proof/Machine/Step.lean ====
section
/-! DEFINITION. One step of the machine: one clock cycle with the inputs that the state lists for it. -/

namespace Sys2Proof.Machine

/-- One step (Machine/Ports.lean, `cycle`). -/
def step (s : State) : Host.Outcome State Fault Refusal := cycle s

/-- `s` with the word of an instruction presented on its port, so that the very next step executes it and nothing
else (log 16). Bits that no port carries present nothing. -/
def State.withFetchWord (s : State) (nbits w : Nat) : State :=
  match portWord nbits w with
  | .ok p => presentWord p s
  | .error _ => s

end Sys2Proof.Machine
end

