-- ==== Sys2Proof/Safety.lean ====
section
/-! DEFINITION. The terms in which claims about the block are made: the events of a program, the program R91 builds
for a request, the life of one operation, when a pixel transfer is valid, what the writes may have delivered, and
the invariants of the machine. -/

namespace Sys2Proof.Machine

/-- The event of an action that completes successfully (00_scope.md R18; 40_sequencer.md R96, R98, R99). -/
def okEvent : Action → Event
  | .hwReset => .reset
  | .write cmd params => .write cmd params .ok
  | .wait ms => .wait ms

/-- The events of a program that runs to its end with every write answered `ok`, without its `EvDone`. -/
def okEvents (prog : List Action) : List Event := prog.map okEvent

/-- Is the action a channel write? -/
def Action.isWrite : Action → Bool
  | .write _ _ => true
  | .hwReset => false
  | .wait _ => false

/-- Is the action a reset request? -/
def Action.isReset : Action → Bool
  | .hwReset => true
  | .write _ _ => false
  | .wait _ => false

/-- How many channel writes a list of actions holds. -/
def writesIn : List Action → Nat
  | [] => 0
  | .write _ _ :: acts => writesIn acts + 1
  | .hwReset :: acts => writesIn acts
  | .wait _ :: acts => writesIn acts

/-- The command byte of the last write of a list of actions, `last` if there is none. -/
def lastWriteCmd (last : Byte) : List Action → Byte
  | [] => last
  | .write cmd _ :: acts => lastWriteCmd cmd acts
  | .hwReset :: acts => lastWriteCmd last acts
  | .wait _ :: acts => lastWriteCmd last acts

/-- The actions presented so far by the operation in flight: those before `SEQ_IDX`, and in AWAIT the one at it
(10_state.md R23, R31). -/
def State.presented (s : State) : List Action :=
  match s.phase with
  | .idle => []
  | .issue => s.prog.take s.position
  | .await => s.prog.take (s.position + 1)

/-- `Build(op, a, b, c, d, GT)` as 40_sequencer.md R91 writes it: one function of the operation code and the operand
latches, written apart from the arms of `exec` so that the two can be compared. -/
def buildR91 (op : U4) (a b c d : U16) (s : State) : Built :=
  match op.toNat with
  | 1 => ⟨initProg s.conf, .ok, s.draws⟩
  | 2 => ⟨winProg s.conf a b c d, .ok, s.draws⟩
  | 3 => oriBuild a (bgrOf d) s
  | 4 => gamBuild a s
  | _ => ⟨[], .illegalOp, s.draws⟩

/-- The bytes of an action without an `ok` answer that may have reached the controller: any prefix of a write's
transaction, from none to all, and none of anything else (20_memory.md R59, 70_reset_and_hazards.md R191). -/
def mayHaveSent : Option Action → List Byte → Prop
  | some (.write cmd params), bytes => bytes <+: wireBytes cmd params
  | some .hwReset, bytes => bytes = []
  | some (.wait _), bytes => bytes = []
  | none, bytes => bytes = []

/-- The bytes one event may have delivered to the controller: all of a write answered `ok`, any prefix of one answered
`io_error` (20_memory.md R59), any prefix of the write that a block reset dropped (70_reset_and_hazards.md R191). -/
def eventMayHaveSent (dropped : Option Action) : Event → List Byte → Prop
  | .write cmd params .ok, bytes => bytes = wireBytes cmd params
  | .write cmd params .ioError, bytes => mayHaveSent (some (.write cmd params)) bytes
  | .blockReset, bytes => mayHaveSent dropped bytes
  | .accept _ _ _ _ _, bytes => bytes = []
  | .gtWrite _ _, bytes => bytes = []
  | .reset, bytes => bytes = []
  | .wait _, bytes => bytes = []
  | .done _, bytes => bytes = []

/-- The bytes a trace may have delivered, in order; its block resets dropped the actions `abandoned`, in order. -/
def traceMayHaveSent : List Event → List (Option Action) → List Byte → Prop
  | [], _, bytes => bytes = []
  | ev :: evs, abandoned, bytes =>
    ∃ first rest, bytes = first ++ rest ∧ eventMayHaveSent abandoned.head?.join ev first ∧
      traceMayHaveSent evs (if ev = .blockReset then abandoned.tail else abandoned) rest

/-- All the bytes that may have reached the controller so far: those of the trace, then any prefix of the outstanding
write. -/
def State.mayHaveReached (s : State) (bytes : List Byte) : Prop :=
  ∃ settled inFlight, bytes = settled ++ inFlight ∧ traceMayHaveSent s.trace s.abandoned settled ∧
    mayHaveSent s.outstanding inFlight

/-- A pixel transfer, outside the block, is valid only while `ARMED` holds and the block is not busy
(70_reset_and_hazards.md R196, R197). -/
def State.pixelTransferValid (s : State) : Bool := s.armed && !s.busy

/-- A finished run (70_reset_and_hazards.md R203): IDLE, and the host presents nothing, now or later. -/
def State.finished (s : State) : Prop :=
  s.phase = .idle ∧ s.reqQ = [] ∧ s.gtQ = [] ∧ ∀ inp ∈ s.env, inp.req = none ∧ inp.gt = none

/-- `OpRun s t`: from the busy state `s` the operation in flight runs, with no block reset, until the step that
completes it, and `t` is the state that step leaves. -/
inductive OpRun : State → State → Prop
  | last {s t : State} (busy : s.busy = true) (noReset : s.inputs.blockReset = false)
      (next : step s = .next t) (idle : t.busy = false) : OpRun s t
  | more {s u t : State} (busy : s.busy = true) (noReset : s.inputs.blockReset = false)
      (next : step s = .next u) (still : u.busy = true) (rest : OpRun u t) : OpRun s t

/-- The outside answers at once and resets nothing (the fairness of 70_reset_and_hazards.md R202, with a bound). -/
def Inputs.prompt (inp : Inputs) : Prop :=
  inp.blockReset = false ∧ inp.chDone = true ∧ inp.rstDone = true ∧ inp.timerLate = false

/-- The most cycles a program takes under prompt answers: two for a write or a reset request, the countdown of
`WAIT_CTR` and two for a wait, one to complete. -/
def opCycles (cyclesPerMs : Nat) : List Action → Nat
  | [] => 1
  | .hwReset :: acts => opCycles cyclesPerMs acts + 2
  | .write _ _ :: acts => opCycles cyclesPerMs acts + 2
  | .wait ms :: acts => opCycles cyclesPerMs acts + ms * cyclesPerMs + 2

/-- The values 10_state.md R38 gives every register, every output and `ARMED` after reset. `GT` is not among them: block
reset keeps it (70_reset_and_hazards.md R190). -/
structure HasResetValues (s : State) : Prop where
  phase : s.phase = .idle
  op : s.op = 0
  opa : s.opa = 0
  opb : s.opb = 0
  opc : s.opc = 0
  opd : s.opd = 0
  seqIdx : s.seqIdx = 0
  prog : s.prog = []
  endCode : s.endCode = .ok
  status : s.status = 0x00000000
  done : s.done = false
  waitCtr : s.waitCtr = 0
  chValid : s.chValid = false
  rstReq : s.rstReq = false
  constants : s.cfgWidth = 240 ∧ s.cfgHeight = 320 ∧ s.cfgBusWidth = 9 ∧ s.cfgRegWidth = 8 ∧
    s.cfgTxbufSize = s.conf.txbufSize
  armed : s.armed = false

/-- The gamma table memory is in its canonical form (20_memory.md R50, R52). -/
def GtCanonical (s : State) : Prop := Memory.wf s.conf.gtDepth s.gt = true

/-- What always holds of the sequencer's control state and of its outputs. -/
structure SeqInv (s : State) : Prop where
  /-- The number of actions done can be told: `SEQ_IDX` never wraps (10_state.md R23). R24's own bound, 254, is exceeded by
  a SETGAM of 255 or 256 curves, which 00_scope.md R14 admits (DESIGN CHOICE, log 24). -/
  progShort : s.prog.length ≤ 256
  /-- 10_state.md R23. -/
  idxInside : s.position ≤ s.prog.length
  /-- 40_sequencer.md R100, 70_reset_and_hazards.md R190: in IDLE no operation is in flight. -/
  idleEmpty : s.phase = .idle → s.prog = [] ∧ s.seqIdx = 0 ∧ s.seqPast = false ∧ s.chValid = false ∧ s.rstReq = false
  /-- In ISSUE nothing is presented. -/
  issueQuiet : s.phase = .issue → s.chValid = false ∧ s.rstReq = false
  /-- 10_state.md R31: in AWAIT one action is outstanding, at the agent its kind names. -/
  awaitOne : s.phase = .await →
    ∃ act, s.current = some act ∧ s.chValid = act.isWrite ∧ s.rstReq = act.isReset
  /-- 30_encoding.md R79, R83: the presented transaction is the outstanding write's, and stays it. -/
  channelStable : ∀ cmd params, s.phase = .await → s.current = some (.write cmd params) →
    s.chCmd = cmd ∧ s.chNparams = countParams params ∧ s.chParams = packParams params
  /-- 40_sequencer.md R99: the counter never exceeds the outstanding wait. -/
  waitBounded : ∀ ms, s.phase = .await → s.current = some (.wait ms) →
    s.waitCtr ≤ ms * s.conf.cyclesPerMs
  /-- 00_scope.md R17. -/
  paramsShort : ∀ cmd params, Action.write cmd params ∈ s.prog → params.length ≤ 15

/-- `WR_COUNT` shows a number of writes: it is that number whenever 8 bits can hold it, and a free value otherwise, which
only the 256th write of a SETGAM of 256 curves reaches (10_state.md R28; DESIGN CHOICE, log 24). -/
def State.countShows (s : State) (writes : Nat) : Prop := writes ≤ 255 → s.wrCount.toNat = writes

/-- 10_state.md R28, R29: while an operation is in flight, `WR_COUNT` and `LAST_CMD` tell the writes presented. -/
def CountInv (s : State) : Prop :=
  s.busy = true →
    s.countShows (writesIn s.presented) ∧ s.lastCmd = lastWriteCmd 0 s.presented

/-- 20_memory.md R62: while an operation is in flight, the trace ends with its `EvAccept` and the events of the
actions completed so far, in program order. -/
def TraceInv (s : State) : Prop :=
  s.busy = true →
    ∃ before, s.trace =
      before ++ .accept s.op s.opa s.opb s.opc s.opd :: okEvents (s.prog.take s.position)

/-- Every block reset of the trace has its entry in `abandoned` (log 25). -/
def AbandonedInv (s : State) : Prop := s.abandoned.length = s.trace.count .blockReset

/-- 10_state.md R24, 20_memory.md R58: while an operation is in flight, its program and end code are those R91 builds
from the latches, the configuration and `GT`, with the free draws taken at accept. -/
def BuiltInv (s : State) : Prop :=
  s.busy = true →
    ∃ n, s.prog = (buildR91 s.op s.opa s.opb s.opc s.opd { s with draws := n }).prog
      ∧ s.endCode = (buildR91 s.op s.opa s.opb s.opc s.opd { s with draws := n }).endCode

end Sys2Proof.Machine
end

