-- ==== Sys2Proof/Certificates/Slice0/Obligations.lean ====
section
/-! DEFINITION. The statements for the provers. Each docstring names the rules of spec/ it formalises, or says that it
is the model's choice. -/

open Sys2Proof Sys2Proof.Machine

/-! ### Encoding -/

/-- Decode and encode agree on every well-formed instruction, every operand at every value (30_encoding.md R70, R71,
R78). -/
def Obligations.DecodeInvertsEncode : Prop :=
  ∀ i : Instr, i.wellFormed = true → decode (encode i) = i

/-- Every word of either port is the word of exactly one well-formed instruction: no bit is dropped, the ignored ones
included (30_encoding.md R77, R85). -/
def Obligations.EncodeInvertsDecode : Prop :=
  ∀ p : PortWord, encode (decode p) = p ∧ (decode p).wellFormed = true

/-- 30_encoding.md R85, with the fields at the bits of R70 and R78: `OPCODE` alone selects the instruction. -/
def Obligations.OpcodeSelectsInstruction : Prop :=
  (∀ w : ReqWord,
    (w.extractLsb' 64 4 = 0x1#4 → decode (.req w) =
      .init (w.extractLsb' 48 16) (w.extractLsb' 32 16) (w.extractLsb' 16 16) (w.extractLsb' 0 16)) ∧
    (w.extractLsb' 64 4 = 0x2#4 → decode (.req w) =
      .setwin (w.extractLsb' 48 16) (w.extractLsb' 32 16) (w.extractLsb' 16 16) (w.extractLsb' 0 16)) ∧
    (w.extractLsb' 64 4 = 0x3#4 → decode (.req w) =
      .setori (w.extractLsb' 48 16) (w.extractLsb' 32 16) (w.extractLsb' 16 16) (w.extractLsb' 0 16)) ∧
    (w.extractLsb' 64 4 = 0x4#4 → decode (.req w) =
      .setgam (w.extractLsb' 48 16) (w.extractLsb' 32 16) (w.extractLsb' 16 16) (w.extractLsb' 0 16)) ∧
    (w.extractLsb' 64 4 ∉ [0x1#4, 0x2#4, 0x3#4, 0x4#4] → decode (.req w) =
      .rsv (w.extractLsb' 64 4) (w.extractLsb' 48 16) (w.extractLsb' 32 16) (w.extractLsb' 16 16)
        (w.extractLsb' 0 16))) ∧
  ∀ g : GtWord, decode (.gt g) = .gtwr (g.extractLsb' 8 16) (g.extractLsb' 0 8)

/-- The words of 95_test_vectors.md §3.1 decode to the instructions written beside them. -/
def Obligations.VectorWordsDecode : Prop :=
  decode (.req 0x10000000000000000#68) = .init 0 0 0 0 ∧
  decode (.req 0x20000000000EF013F#68) = .setwin 0 0 239 319 ∧
  decode (.req 0x3005A12345678FFFE#68) = .setori 90 0x1234 0x5678 0xFFFE ∧
  decode (.req 0x4001E000000000000#68) = .setgam 30 0 0 0 ∧
  decode (.req 0xF1234000000000000#68) = .rsv 0xF 0x1234 0 0 0 ∧
  decode (.gt 0x001D0F#24) = .gtwr 29 0x0F

/-! ### A step runs the decoded instruction -/

/-- In IDLE with a request word presented and no GT word, the step is `exec` of the decoded request on the state at
the start of the cycle (`done` low, the cycle's inputs taken) with that word taken off `req_word` (30_encoding.md
R83, 40_sequencer.md R90). -/
def Obligations.StepExecutesRequest : Prop :=
  ∀ (s : State) (w : ReqWord) (rest : List ReqWord),
    s.phase = .idle → s.inputs.blockReset = false →
    (beginCycle s).gtQ = [] → (beginCycle s).reqQ = w :: rest →
    step s = exec (decode (.req w)) { beginCycle s with reqQ := rest }

/-- In IDLE with a GT word presented and no request, the step is `exec` of the decoded `GTWR`. -/
def Obligations.StepExecutesGtWord : Prop :=
  ∀ (s : State) (w : GtWord) (rest : List GtWord),
    s.phase = .idle → s.inputs.blockReset = false →
    (beginCycle s).gtQ = w :: rest → (beginCycle s).reqQ = [] →
    step s = exec (decode (.gt w)) { beginCycle s with gtQ := rest }

/-- 30_encoding.md R83: when both ports transfer in one cycle, the GT write takes effect first and the request is
executed on the state it leaves. -/
def Obligations.StepExecutesGtWordFirst : Prop :=
  ∀ (s : State) (g : GtWord) (gs : List GtWord) (w : ReqWord) (ws : List ReqWord),
    s.phase = .idle → s.inputs.blockReset = false →
    (beginCycle s).gtQ = g :: gs → (beginCycle s).reqQ = w :: ws →
    ∃ u, exec (decode (.gt g)) { beginCycle s with gtQ := gs } = .next u ∧ u.reqQ = w :: ws ∧
      step s = exec (decode (.req w)) { u with reqQ := ws }

/-- With nothing presented the block waits in IDLE (20_memory.md R61): the cycle changes nothing but `done`, which
falls, and the inputs, which are used up. -/
def Obligations.IdleBlockWaits : Prop :=
  ∀ s : State, s.phase = .idle → s.inputs.blockReset = false →
    (beginCycle s).gtQ = [] → (beginCycle s).reqQ = [] →
    step s = .next { s with done := false, reqQ := [], gtQ := [], env := s.env.tail }

/-- The model's own: `withFetchWord` presents a word so that the next step executes it and nothing else (log 16). -/
def Obligations.FetchWordIsExecuted : Prop :=
  ∀ s : State,
    (∀ w : ReqWord, step (s.withFetchWord 72 w.toNat) =
      exec (decode (.req w)) { s with phase := .idle, done := false, gtQ := [] }) ∧
    ∀ g : GtWord, step (s.withFetchWord 24 g.toNat) =
      exec (decode (.gt g)) { s with phase := .idle, done := false, reqQ := [] }

/-! ### The instructions -/

/-- INIT in IDLE (41_initializer.md R111, R118; accepted as 40_sequencer.md R90 says): the whole next state, with the
program written out action by action. -/
def Obligations.InitBuildsPowerOnSequence : Prop :=
  ∀ (a b c d : U16) (s : State), s.phase = .idle →
    exec (.init a b c d) s = .next
      { s with
        op := 0x1, opa := a, opb := b, opc := c, opd := d
        wrCount := 0, lastCmd := 0
        trace := s.trace ++ [.accept 0x1 a b c d]
        prog := [.hwReset, .write s.conf.cmdSwreset [], .wait s.conf.tSwresetMs, .write s.conf.cmdDispoff []]
          ++ s.conf.vendorBlock.map (fun e => .write e.cmd e.params)
          ++ [.write s.conf.cmdSlpout [], .wait s.conf.tSlpoutMs, .write s.conf.cmdDispon [],
            .wait s.conf.tDisponMs, .write s.conf.cmdCaset [0x00, 0x00, 0x00, 0xEF],
            .write s.conf.cmdRaset [0x00, 0x00, 0x01, 0x3F], .write s.conf.cmdRamwr []]
        endCode := .ok, seqIdx := 0, seqPast := false, phase := .issue }

/-- SETWIN in IDLE (42_window.md R130, R132): the whole next state, for every operand value, with no validation. -/
def Obligations.SetwinBuildsThreeWrites : Prop :=
  ∀ (xs ys xe ye : U16) (s : State), s.phase = .idle →
    exec (.setwin xs ys xe ye) s = .next
      { s with
        op := 0x2, opa := xs, opb := ys, opc := xe, opd := ye
        wrCount := 0, lastCmd := 0
        trace := s.trace ++ [.accept 0x2 xs ys xe ye]
        prog := [
          .write s.conf.cmdCaset
            [xs.extractLsb' 8 8, xs.extractLsb' 0 8, xe.extractLsb' 8 8, xe.extractLsb' 0 8],
          .write s.conf.cmdRaset
            [ys.extractLsb' 8 8, ys.extractLsb' 0 8, ye.extractLsb' 8 8, ye.extractLsb' 0 8],
          .write s.conf.cmdRamwr []]
        endCode := .ok, seqIdx := 0, seqPast := false, phase := .issue }

/-- SETORI in IDLE with a supported rotation (43_orientation.md R140, R141): one MADCTL write. -/
def Obligations.SetoriBuildsMadctlWrite : Prop :=
  ∀ (deg b c d : U16) (r : Rotation) (s : State), s.phase = .idle →
    (deg, r) ∈ [(0#16, Rotation.r0), (90#16, .r90), (180#16, .r180), (270#16, .r270)] →
    exec (.setori deg b c d) s = .next
      { s with
        op := 0x3, opa := deg, opb := b, opc := c, opd := d
        wrCount := 0, lastCmd := 0
        trace := s.trace ++ [.accept 0x3 deg b c d]
        prog := [.write s.conf.cmdMadctl
          [s.conf.macPat r ||| (if d.getLsbD 0 then s.conf.macBgr else 0x00)]]
        endCode := .ok, seqIdx := 0, seqPast := false, phase := .issue }

/-- SETORI in IDLE with any other rotation (43_orientation.md R142): the empty program and
`UNSUPPORTED_ROTATION`. -/
def Obligations.SetoriRejectsOtherRotations : Prop :=
  ∀ (deg b c d : U16) (s : State), s.phase = .idle → deg ∉ [0#16, 90#16, 180#16, 270#16] →
    exec (.setori deg b c d) s = .next
      { s with
        op := 0x3, opa := deg, opb := b, opc := c, opd := d
        wrCount := 0, lastCmd := 0
        trace := s.trace ++ [.accept 0x3 deg b c d]
        prog := [], endCode := .unsupportedRotation, seqIdx := 0, seqPast := false, phase := .issue }

/-- SETGAM in IDLE with a loaded table of the right length (44_gamma.md R151, R153 to R155): one write per curve in
ascending order, 15 bytes each, row-major offsets, and no free draw. -/
def Obligations.SetgamBuildsCurveWrites : Prop :=
  ∀ (len b c d : U16) (f : Nat → Byte) (s : State), s.phase = .idle →
    len.toNat = s.conf.numCurves * s.conf.numValues →
    (∀ k < s.conf.numCurves * s.conf.numValues, Memory.read s.gt k = some (f k)) →
    exec (.setgam len b c d) s = .next
      { s with
        op := 0x4, opa := len, opb := b, opc := c, opd := d
        wrCount := 0, lastCmd := 0
        trace := s.trace ++ [.accept 0x4 len b c d]
        prog := (List.range s.conf.numCurves).map fun i =>
          .write (s.conf.cmdGammaBase + BitVec.ofNat 8 i)
            ((List.range 15).map fun j => f (i * s.conf.numValues + j))
        endCode := .ok, seqIdx := 0, seqPast := false, phase := .issue }

/-- SETGAM in IDLE with the right length and any contents of `GT` (44_gamma.md R151, R156; 20_memory.md R53): it is
accepted with one 15-byte write per curve; an entry that holds a value is sent as that value, the others as whatever
the free draws give. -/
def Obligations.SetgamSendsEveryWrittenEntry : Prop :=
  ∀ (len b c d : U16) (s : State), s.phase = .idle →
    len.toNat = s.conf.numCurves * s.conf.numValues →
    ∃ t, exec (.setgam len b c d) s = .next t ∧ t.endCode = .ok ∧ t.phase = .issue ∧ t.position = 0 ∧
      t.prog.length = s.conf.numCurves ∧
      ∀ i < s.conf.numCurves, ∃ params,
        t.prog[i]? = some (.write (s.conf.cmdGammaBase + BitVec.ofNat 8 i) params) ∧
        params.length = 15 ∧
        ∀ j < 15, ∀ v, Memory.read s.gt (i * s.conf.numValues + j) = some v → params[j]? = some v

/-- SETGAM in IDLE with any other length (44_gamma.md R152): the empty program and `INVALID_TABLE`. -/
def Obligations.SetgamRejectsWrongLength : Prop :=
  ∀ (len b c d : U16) (s : State), s.phase = .idle →
    len.toNat ≠ s.conf.numCurves * s.conf.numValues →
    exec (.setgam len b c d) s = .next
      { s with
        op := 0x4, opa := len, opb := b, opc := c, opd := d
        wrCount := 0, lastCmd := 0
        trace := s.trace ++ [.accept 0x4 len b c d]
        prog := [], endCode := .invalidTable, seqIdx := 0, seqPast := false, phase := .issue }

/-- A reserved request in IDLE (30_encoding.md R76): accepted like any request, no action, `ILLEGAL_OP`. -/
def Obligations.ReservedRequestIsAccepted : Prop :=
  ∀ (opc : U4) (a b c d : U16) (s : State), s.phase = .idle →
    opc ∉ [0x1#4, 0x2#4, 0x3#4, 0x4#4] →
    exec (.rsv opc a b c d) s = .next
      { s with
        op := opc, opa := a, opb := b, opc := c, opd := d
        wrCount := 0, lastCmd := 0
        trace := s.trace ++ [.accept opc a b c d]
        prog := [], endCode := .illegalOp, seqIdx := 0, seqPast := false, phase := .issue }

/-- GTWR in IDLE (44_gamma.md R150, 20_memory.md R52): below `GT_DEPTH` the entry, and no other, takes the value; at
or above it no entry changes. `STATUS` and `PHASE` and every other register stay; the event is recorded. -/
def Obligations.GtwrWritesOneEntry : Prop :=
  ∀ (addr : U16) (data : Byte) (s : State), s.phase = .idle →
    ∃ t, exec (.gtwr addr data) s = .next t ∧
      t = { s with gt := t.gt, trace := s.trace ++ [.gtWrite addr data] } ∧
      (addr.toNat < s.conf.gtDepth → Memory.read t.gt addr.toNat = some data) ∧
      (∀ k, k ≠ addr.toNat → Memory.read t.gt k = Memory.read s.gt k) ∧
      (s.conf.gtDepth ≤ addr.toNat → t.gt = s.gt)

/-- While `PHASE != IDLE` no word transfers and the host holds its word (40_sequencer.md R90, 20_memory.md R58). That
`exec` of a waiting instruction answers the state unchanged is the model's choice (log 8, DEDUCED): `step` never calls
`exec` in such a state. -/
def Obligations.BusyBlockTakesNoWord : Prop :=
  ∀ (i : Instr) (s : State), s.phase ≠ .idle → exec i s = .next s

/-- 40_sequencer.md R90 with the `Build` of R91: whatever the word, accept latches its fields and stores what `Build`
returns for them; the arms of `exec` and R91's one function agree. -/
def Obligations.AcceptFollowsBuild : Prop :=
  ∀ (w : ReqWord) (s : State), s.phase = .idle →
    exec (decode (.req w)) s = .next
      { s with
        op := w.extractLsb' 64 4, opa := w.extractLsb' 48 16, opb := w.extractLsb' 32 16
        opc := w.extractLsb' 16 16, opd := w.extractLsb' 0 16
        wrCount := 0, lastCmd := 0
        trace := s.trace ++ [.accept (w.extractLsb' 64 4) (w.extractLsb' 48 16) (w.extractLsb' 32 16)
          (w.extractLsb' 16 16) (w.extractLsb' 0 16)]
        prog := (buildR91 (w.extractLsb' 64 4) (w.extractLsb' 48 16) (w.extractLsb' 32 16)
          (w.extractLsb' 16 16) (w.extractLsb' 0 16) s).prog
        endCode := (buildR91 (w.extractLsb' 64 4) (w.extractLsb' 48 16) (w.extractLsb' 32 16)
          (w.extractLsb' 16 16) (w.extractLsb' 0 16) s).endCode
        draws := (buildR91 (w.extractLsb' 64 4) (w.extractLsb' 48 16) (w.extractLsb' 32 16)
          (w.extractLsb' 16 16) (w.extractLsb' 0 16) s).draws
        seqIdx := 0, seqPast := false, phase := .issue }

/-- The frame of the five requests INIT, SETWIN, SETORI, SETGAM and RSV: `STATUS.CODE`, the outputs, `WAIT_CTR`, the
configuration, the outside and every entry of `GT` stay as they are; only SETGAM takes free draws. -/
def Obligations.RequestFrame : Prop :=
  ∀ (i : Instr) (s t : State), (∀ addr data, i ≠ .gtwr addr data) → exec i s = .next t →
    (t.cfg = s.cfg ∧ t.code = s.code ∧ t.done = s.done ∧ t.waitCtr = s.waitCtr ∧ t.chValid = s.chValid ∧
      t.chCmd = s.chCmd ∧ t.chNparams = s.chNparams ∧ t.chParams = s.chParams ∧ t.rstReq = s.rstReq ∧
      t.abandoned = s.abandoned ∧ t.reqQ = s.reqQ ∧ t.gtQ = s.gtQ ∧ t.env = s.env) ∧
    (∀ k, Memory.read t.gt k = Memory.read s.gt k) ∧
    ((∀ len b c d, i ≠ .setgam len b c d) → t.draws = s.draws)

/-- The frame of GTWR: everything but the one entry and the trace stays as it is; above `GT_DEPTH` every entry
does. -/
def Obligations.GtwrFrame : Prop :=
  ∀ (addr : U16) (data : Byte) (s t : State), exec (.gtwr addr data) s = .next t →
    t = { s with gt := t.gt, trace := t.trace } ∧
    (∀ k, ¬ (k = addr.toNat ∧ addr.toNat < s.conf.gtDepth) → Memory.read t.gt k = Memory.read s.gt k)

/-- 30_encoding.md R77: two requests that differ only in ignored bits leave states that differ only in the operand
latches and in the `EvAccept` event. -/
def Obligations.IgnoredBitsOnlyLatch : Prop :=
  ∀ (s t : State),
    (∀ a b c d a' b' c' d', exec (.init a b c d) s = .next t → s.phase = .idle →
      exec (.init a' b' c' d') s = .next { t with
        opa := a', opb := b', opc := c', opd := d', trace := s.trace ++ [.accept 0x1 a' b' c' d'] }) ∧
    (∀ rot b c d b' c' d', exec (.setori rot b c d) s = .next t → s.phase = .idle →
      d.getLsbD 0 = d'.getLsbD 0 →
      exec (.setori rot b' c' d') s = .next { t with
        opb := b', opc := c', opd := d', trace := s.trace ++ [.accept 0x3 rot b' c' d'] }) ∧
    (∀ len b c d b' c' d', exec (.setgam len b c d) s = .next t → s.phase = .idle →
      exec (.setgam len b' c' d') s = .next { t with
        opb := b', opc := c', opd := d', trace := s.trace ++ [.accept 0x4 len b' c' d'] })

/-- 42_window.md R131: the byte split, the high byte first, and no other arithmetic on the coordinates SETWIN sends. -/
def Obligations.CoordinateBytes : Prop :=
  (∀ v : U16, (hiByte v).toNat = v.toNat >>> 8 ∧ (loByte v).toNat = v.toNat &&& 0xFF) ∧
  ∀ (xs ys xe ye : U16) (s : State), s.phase = .idle →
    ∃ t, exec (.setwin xs ys xe ye) s = .next t ∧ t.prog = [
      .write s.conf.cmdCaset [hiByte xs, loByte xs, hiByte xe, loByte xe],
      .write s.conf.cmdRaset [hiByte ys, loByte ys, hiByte ye, loByte ye],
      .write s.conf.cmdRamwr []]

/-- 30_encoding.md R79: `params[k]` stands at bits `[8k+7 : 8k]` of `ch_params`, and the bytes past the last
parameter are 0. -/
def Obligations.ChannelParamLayout : Prop :=
  ∀ params : List Byte, params.length ≤ 15 → ∀ k < 15,
    (packParams params).extractLsb' (8 * k) 8 = params.getD k 0

/-- 43_orientation.md R144: over the eight supported inputs `MacValue` takes eight pairwise distinct values, and
SETORI with a supported rotation presents exactly one write with exactly one parameter byte. -/
def Obligations.EightDistinctMadctlValues : Prop :=
  (∀ (c : LegalCfg) (r r' : Rotation) (g g' : Bool),
    macValue c.val r g = macValue c.val r' g' → r = r' ∧ g = g') ∧
  ∀ (deg b c d : U16) (s : State), deg ∈ [0#16, 90#16, 180#16, 270#16] → s.phase = .idle →
    ∃ t v, exec (.setori deg b c d) s = .next t ∧ t.prog = [.write s.conf.cmdMadctl [v]]

/-! ### The sequencer -/

/-- Presenting a write (40_sequencer.md R93, R95), and when `WR_COUNT` is 255 already, everything as before but a free
value for the count, which is the model's choice (log 24, DESIGN CHOICE): 10_state.md R26 says the count never gets
there. -/
def Obligations.IssuePresentsWrite : Prop :=
  ∀ (s : State) (cmd : Byte) (params : List Byte), s.phase = .issue → s.inputs.blockReset = false →
    s.prog[s.position]? = some (.write cmd params) →
    (s.wrCount ≠ 255 → step s = .next { beginCycle s with
      wrCount := s.wrCount + 1, lastCmd := cmd
      chCmd := cmd, chNparams := BitVec.ofNat 4 params.length, chParams := packParams params
      chValid := true, phase := .await }) ∧
    (s.wrCount = 255 → ∃ count, step s = .next { beginCycle s with
      wrCount := count, draws := s.draws + 1, lastCmd := cmd
      chCmd := cmd, chNparams := BitVec.ofNat 4 params.length, chParams := packParams params
      chValid := true, phase := .await })

/-- 40_sequencer.md R93, R98, R99: presenting a reset request and a wait. -/
def Obligations.IssuePresentsResetAndWait : Prop :=
  ∀ s : State, s.phase = .issue → s.inputs.blockReset = false →
    (s.prog[s.position]? = some .hwReset →
      step s = .next { beginCycle s with rstReq := true, phase := .await }) ∧
    ∀ ms, s.prog[s.position]? = some (.wait ms) →
      step s = .next { beginCycle s with waitCtr := ms * s.conf.cyclesPerMs, phase := .await }

/-- The channel answers `ok` (40_sequencer.md R96, R94; 30_encoding.md R83): the event, `ch_valid`, `SEQ_IDX` and `PHASE`
as R96 says. That `ch_cmd`, `ch_nparams` and `ch_params` keep their values when the transaction ends, which the
whole-state equality also says, is the model's choice (log 12, DESIGN CHOICE, unsafe), and so is the free
value of `SEQ_IDX` past 255, which 10_state.md R23 says never happens (log 24). -/
def Obligations.ChannelOkAdvances : Prop :=
  ∀ (s : State) (cmd : Byte) (params : List Byte), s.phase = .await → s.inputs.blockReset = false →
    s.prog[s.position]? = some (.write cmd params) →
    s.inputs.chDone = true → s.inputs.chErr = false →
    (s.seqIdx ≠ 255 → step s = .next { beginCycle s with
      trace := s.trace ++ [.write cmd params .ok], chValid := false
      seqIdx := s.seqIdx + 1, phase := .issue }) ∧
    (s.seqIdx = 255 → ∃ idx, step s = .next { beginCycle s with
      trace := s.trace ++ [.write cmd params .ok], chValid := false
      seqIdx := idx, seqPast := true, draws := s.draws + 1, phase := .issue })

/-- The channel answers `io_error`, and the operation ends at once (40_sequencer.md R97, R100; 60_exceptions.md R177).
That `ch_cmd`, `ch_nparams` and `ch_params` keep their values when the failed transaction ends, which the whole-state
equality also says, is the model's choice (log 12, DESIGN CHOICE, unsafe), not R97's or R100's. -/
def Obligations.ChannelErrorEndsOperation : Prop :=
  ∀ (s : State) (cmd : Byte) (params : List Byte), s.phase = .await → s.inputs.blockReset = false →
    s.prog[s.position]? = some (.write cmd params) →
    s.inputs.chDone = true → s.inputs.chErr = true →
    step s = .next { beginCycle s with
      trace := s.trace ++ [.write cmd params .ioError, .done .hwError], chValid := false
      code := .hwError, prog := [], seqIdx := 0, seqPast := false, phase := .idle, done := true }

/-- 40_sequencer.md R98: the reset function returns. The free value of `SEQ_IDX` past 255, which 10_state.md R23 says never
happens, is the model's choice (log 24). -/
def Obligations.ResetDoneAdvances : Prop :=
  ∀ s : State, s.phase = .await → s.inputs.blockReset = false →
    s.prog[s.position]? = some .hwReset → s.inputs.rstDone = true →
    (s.seqIdx ≠ 255 → step s = .next { beginCycle s with
      trace := s.trace ++ [.reset], rstReq := false, seqIdx := s.seqIdx + 1, phase := .issue }) ∧
    (s.seqIdx = 255 → ∃ idx, step s = .next { beginCycle s with
      trace := s.trace ++ [.reset], rstReq := false
      seqIdx := idx, seqPast := true, draws := s.draws + 1, phase := .issue })

/-- 10_state.md R25, 40_sequencer.md R99: `WAIT_CTR` counts down, and at zero the wait ends and is recorded. That it falls
by one a step, and that at zero the timer may hold the wait, are the model's choice (log 10, DEDUCED and DESIGN
CHOICE; log 20): R99 says "at least" and gives no upper bound. So is the free
value of `SEQ_IDX` past 255 (log 24). -/
def Obligations.WaitCountsDownThenEnds : Prop :=
  ∀ (s : State) (ms : Nat), s.phase = .await → s.inputs.blockReset = false →
    s.prog[s.position]? = some (.wait ms) →
    (s.waitCtr ≠ 0 → step s = .next { beginCycle s with waitCtr := s.waitCtr - 1 }) ∧
    (s.waitCtr = 0 → s.inputs.timerLate = true → step s = .next (beginCycle s)) ∧
    (s.waitCtr = 0 → s.inputs.timerLate = false → s.seqIdx ≠ 255 → step s = .next { beginCycle s with
      trace := s.trace ++ [.wait ms], seqIdx := s.seqIdx + 1, phase := .issue }) ∧
    (s.waitCtr = 0 → s.inputs.timerLate = false → s.seqIdx = 255 → ∃ idx, step s = .next { beginCycle s with
      trace := s.trace ++ [.wait ms]
      seqIdx := idx, seqPast := true, draws := s.draws + 1, phase := .issue })

/-- 40_sequencer.md R92, R100: at the end of the program the operation completes with `END_CODE`. -/
def Obligations.ProgramEndCompletes : Prop :=
  ∀ s : State, s.phase = .issue → s.inputs.blockReset = false → s.position = s.prog.length →
    step s = .next { beginCycle s with
      code := s.endCode, prog := [], seqIdx := 0, seqPast := false, phase := .idle, done := true
      trace := s.trace ++ [.done s.endCode] }

/-- 70_reset_and_hazards.md R190, R191, 60_exceptions.md R176: block reset in any phase, whatever else the cycle
brings. That every cycle with `rst_n = 0` appends its own `EvBlockReset` is the model's choice (log 18, DESIGN CHOICE);
that `ARMED` is false after it is 10_state.md R33, which marks it as the spec's own reading. -/
def Obligations.BlockResetWins : Prop :=
  ∀ s : State, s.inputs.blockReset = true →
    ∃ t, step s = .next t ∧
      t.phase = .idle ∧ t.op = 0 ∧ t.opa = 0 ∧ t.opb = 0 ∧ t.opc = 0 ∧ t.opd = 0 ∧ t.seqIdx = 0 ∧
      t.prog = [] ∧ t.endCode = .ok ∧ t.status = 0 ∧ t.done = false ∧ t.waitCtr = 0 ∧ t.chValid = false ∧
      t.rstReq = false ∧ (∀ k, Memory.read t.gt k = Memory.read s.gt k) ∧ t.cfg = s.cfg ∧
      t.trace = s.trace ++ [.blockReset] ∧ t.armed = false

/-- 70_reset_and_hazards.md R191: a block reset drops the outstanding action, and the controller may have received any
prefix of a dropped write: after it, exactly the bytes may have reached the controller that may have before it. The
list `abandoned`, from which this is read, is the model's own (log 25, DESIGN CHOICE). -/
def Obligations.BlockResetAbandonsOutstandingWrite : Prop :=
  ∀ s : State, AbandonedInv s → s.inputs.blockReset = true →
    ∃ t, step s = .next t ∧ t.outstanding = none ∧ t.abandoned = s.abandoned ++ [s.outstanding] ∧
      (∀ bytes, t.mayHaveReached bytes ↔ s.mayHaveReached bytes) ∧
      ∀ cmd params sent settled, s.phase = .await → s.current = some (.write cmd params) →
        sent <+: cmd :: params → traceMayHaveSent s.trace s.abandoned settled → t.mayHaveReached (settled ++ sent)

/-- 10_state.md R38: the values after reset, at power-on and after a block reset in any state; no entry of `GT` holds
a value at power-on. -/
def Obligations.ResetStateValues : Prop :=
  HasResetValues State.reset ∧ (∀ k, Memory.read State.reset.gt k = none) ∧
    ∀ s : State, s.inputs.blockReset = true → ∃ t, step s = .next t ∧ HasResetValues t

/-- A channel or a reset function that never answers leaves the block in AWAIT for ever, with no event and no error
(40_sequencer.md R103). R103 says that the block has no step there; that the hang is a next state at every step is the
model's choice (log 17, DEDUCED). -/
def Obligations.SilentAgentHangsBlock : Prop :=
  ∀ (s : State) (act : Action), s.phase = .await → s.current = some act → act.isWrite || act.isReset →
    (∀ inp ∈ s.env, inp.blockReset = false ∧ inp.chDone = false ∧ inp.rstDone = false) →
    ∀ n, ∃ t, Host.Core.run Sys2Proof.core n s = .next t ∧ t.phase = .await ∧ t.busy = true ∧
      t.current = some act ∧ t.trace = s.trace ∧ t.code = s.code ∧ t.gt = s.gt

/-- Nothing but block reset shortens a wait: whatever the outside does, the block waits as many steps as `WAIT_CTR`
says, sends nothing and records nothing (10_state.md R25, 40_sequencer.md R99, 60_exceptions.md R181,
70_reset_and_hazards.md R195). The rules speak of milliseconds and clocks; that a step is a cycle and that `WAIT_CTR`
falls by one a step is the model's choice (log 10, log 20). -/
def Obligations.WaitIsNeverShortened : Prop :=
  ∀ (s : State) (ms n : Nat), s.phase = .await → s.current = some (.wait ms) → n ≤ s.waitCtr →
    (∀ inp ∈ s.env, inp.blockReset = false) →
    ∃ t, Host.Core.run Sys2Proof.core n s = .next t ∧ t.phase = .await ∧ t.current = some (.wait ms) ∧
      t.waitCtr = s.waitCtr - n ∧ t.trace = s.trace ∧ t.chValid = s.chValid ∧ t.rstReq = s.rstReq

/-- 30_encoding.md R83: `ch_done` and `ch_err` are ignored when no write is outstanding, `rst_done` when no reset
request is. -/
def Obligations.UnmatchedAnswersIgnored : Prop :=
  ∀ (s : State) (inp : Inputs) (rest : List Inputs),
    (¬ (s.phase = .await ∧ ∃ cmd params, s.current = some (.write cmd params)) →
      ∀ chDone chErr, step { s with env := { inp with chDone := chDone, chErr := chErr } :: rest } =
        step { s with env := inp :: rest }) ∧
    (¬ (s.phase = .await ∧ s.current = some .hwReset) →
      ∀ rstDone, step { s with env := { inp with rstDone := rstDone } :: rest } =
        step { s with env := inp :: rest })

/-! ### Outputs -/

/-- 10_state.md R26: the layout of `STATUS`, field by field, with the codes of 60_exceptions.md R170. -/
def Obligations.StatusWordLayout : Prop :=
  ∀ s : State,
    s.status.extractLsb' 0 3 = s.code.bits ∧
    (s.status.getLsbD 3 = true ↔ s.phase ≠ .idle) ∧
    s.status.extractLsb' 4 4 = 0 ∧
    s.status.extractLsb' 8 8 = s.wrCount ∧
    s.status.extractLsb' 16 8 = s.lastCmd ∧
    s.status.extractLsb' 24 8 = 0 ∧
    (s.code.bits = 0 ↔ s.code = .ok) ∧ (s.code.bits = 1 ↔ s.code = .hwError) ∧
    (s.code.bits = 2 ↔ s.code = .unsupportedRotation) ∧ (s.code.bits = 3 ↔ s.code = .invalidTable) ∧
    (s.code.bits = 4 ↔ s.code = .illegalOp)

/-- 10_state.md R35: the constant outputs, in every state, and no step changes them. -/
def Obligations.ConstantOutputs : Prop :=
  ∀ s : State,
    (s.cfgWidth = 240 ∧ s.cfgHeight = 320 ∧ s.cfgBusWidth = 9 ∧ s.cfgRegWidth = 8 ∧
      s.cfgTxbufSize = s.conf.txbufSize) ∧
    ∀ t, step s = .next t → t.cfg = s.cfg

/-! ### What every step keeps -/

/-- The gamma table memory keeps its canonical form: indices rising, all below `GT_DEPTH` (20_memory.md R50, R52). -/
def Obligations.StepKeepsGtCanonical : Prop :=
  ∀ s t : State, GtCanonical s → step s = .next t → GtCanonical t

/-- The sequencer's control state stays consistent (10_state.md R23, R24, R31; 30_encoding.md R79, R83). The bound of 256
actions is 00_scope.md R14's for SETGAM, against the 254 R24 derives: the model's choice (log 24). -/
def Obligations.StepKeepsSequencer : Prop :=
  ∀ s t : State, SeqInv s → step s = .next t → SeqInv t

/-- `WR_COUNT` and `LAST_CMD` always tell the writes presented by the operation in flight (10_state.md R28, R29), but
that past 255 writes the count is a free value (the model's choice, log 24). -/
def Obligations.StepKeepsWriteCount : Prop :=
  ∀ s t : State, SeqInv s → CountInv s → step s = .next t → CountInv t

/-- The trace of the operation in flight is its `EvAccept` and its completed actions, in program order
(20_memory.md R62, 40_sequencer.md R101). -/
def Obligations.StepKeepsProgramOrder : Prop :=
  ∀ s t : State, SeqInv s → TraceInv s → step s = .next t → TraceInv t

/-- The program in flight stays the one R91 builds from the latches and the frozen `GT` (10_state.md R24,
20_memory.md R58). -/
def Obligations.StepKeepsBuiltProgram : Prop :=
  ∀ s t : State, BuiltInv s → step s = .next t → BuiltInv t

/-- Every block reset of the trace has its entry in the list of dropped actions, so that what each may have delivered is
known (70_reset_and_hazards.md R191; the list is the model's own, log 25). -/
def Obligations.StepKeepsAbandoned : Prop :=
  ∀ s t : State, AbandonedInv s → step s = .next t → AbandonedInv t

/-- The invariants hold right after reset. -/
def Obligations.ResetMeetsInvariants : Prop :=
  GtCanonical State.reset ∧ SeqInv State.reset ∧ CountInv State.reset ∧ TraceInv State.reset ∧
    BuiltInv State.reset ∧ AbandonedInv State.reset

/-- A state that meets the sequencer's invariant always has a next state: no fault and no refusal is reached. The model's
choice in two points: that a step with no answer in AWAIT is a next state (log 17, DEDUCED; 40_sequencer.md R94 says
that the block itself has no step there), and the two faults themselves (log 9, DESIGN CHOICE). -/
def Obligations.ConsistentStateSteps : Prop :=
  ∀ s : State, SeqInv s → ∃ t, step s = .next t

/-- 20_memory.md R58: while an operation is in flight no step changes an entry of `GT`. -/
def Obligations.GtFrozenWhileBusy : Prop :=
  ∀ s t : State, s.busy = true → step s = .next t → ∀ k, Memory.read t.gt k = Memory.read s.gt k

/-- 10_state.md R21, R22: `OP` and the operand latches change only at accept, which starts in IDLE, or by block
reset. -/
def Obligations.LatchesChangeOnlyAtAccept : Prop :=
  ∀ s t : State, step s = .next t →
    (t.op = s.op ∧ t.opa = s.opa ∧ t.opb = s.opb ∧ t.opc = s.opc ∧ t.opd = s.opd)
      ∨ s.inputs.blockReset = true
      ∨ (s.phase = .idle ∧ t.phase = .issue ∧
          ∃ before, t.trace = before ++ [.accept t.op t.opa t.opb t.opc t.opd])

/-- 10_state.md R27: `CODE` changes only at a completion, whose `EvDone` carries the new code, or by block reset. -/
def Obligations.CodeChangesOnlyAtCompletion : Prop :=
  ∀ s t : State, step s = .next t → s.inputs.blockReset = false → t.code ≠ s.code →
    s.busy = true ∧ t.busy = false ∧ t.done = true ∧
      ∃ before, t.trace = before ++ [.done t.code]

/-- 10_state.md R30: `done` is high after a step exactly when that step completed an operation, and so for one cycle. -/
def Obligations.DonePulsesAtCompletion : Prop :=
  ∀ s t : State, step s = .next t →
    (t.done = true ↔ s.busy = true ∧ s.inputs.blockReset = false ∧ t.busy = false)

/-- 00_scope.md R18: events are recorded in order and none is taken back. -/
def Obligations.TraceOnlyGrows : Prop :=
  ∀ s t : State, step s = .next t → s.trace <+: t.trace

/-! ### Whole operations -/

/-- The life of any operation, from the state accept leaves to its completion, for every schedule and every sequence
of answers without block reset (20_memory.md R62; 40_sequencer.md R97, R100, R101, R105; 10_state.md R28, R29;
60_exceptions.md R171, R175, R177). Either every action completes, in order, and the operation reports `END_CODE`; or
one write is answered `io_error`, and the operation reports `HW_ERROR` and presents nothing after it. `WR_COUNT` is the
number of writes presented; only of the 256th write of a SETGAM of 256 curves is the count a free value (log 24). -/
def Obligations.OperationOutcome : Prop :=
  ∀ s t : State, SeqInv s → s.phase = .issue → s.position = 0 → s.wrCount = 0 → s.lastCmd = 0 →
    OpRun s t →
    (t.gt = s.gt ∧ t.op = s.op ∧ t.opa = s.opa ∧ t.opb = s.opb ∧ t.opc = s.opc ∧ t.opd = s.opd ∧
      t.phase = .idle ∧ t.done = true) ∧
    ((t.trace = s.trace ++ okEvents s.prog ++ [.done s.endCode] ∧ t.code = s.endCode ∧
        t.countShows (writesIn s.prog) ∧ t.lastCmd = lastWriteCmd 0 s.prog) ∨
      ∃ k cmd params, s.prog[k]? = some (.write cmd params) ∧
        t.trace = s.trace ++ okEvents (s.prog.take k) ++ [.write cmd params .ioError, .done .hwError] ∧
        t.code = .hwError ∧ t.countShows (writesIn (s.prog.take k) + 1) ∧ t.lastCmd = cmd)

/-- 70_reset_and_hazards.md R202, with a bound: when every agent answers at once and no block reset comes, an
operation in flight completes. The bound `opCycles` counts cycles as the model does, which is its choice (log 20,
DESIGN CHOICE; log 10). -/
def Obligations.PromptAgentsCompleteOperation : Prop :=
  ∀ s : State, SeqInv s → s.busy = true → (∀ inp ∈ s.env, inp.prompt) →
    opCycles s.conf.cyclesPerMs s.prog ≤ s.env.length → ∃ t, OpRun s t

/-- 41_initializer.md R118, R120, R121 (its last values), 10_state.md R33: an INIT answered `ok` throughout has presented
`N_VENDOR + 7` writes and leaves memory-write mode armed; one whose write `n` is answered `io_error` ends at once with
`HW_ERROR` and `WR_COUNT = n`, its trace holds exactly the events of the actions before and that write, and it leaves
memory-write mode disarmed. -/
def Obligations.InitRunOutcome : Prop :=
  ∀ (a b c d : U16) (s u t : State), SeqInv s → s.phase = .idle →
    exec (.init a b c d) s = .next u → OpRun u t →
    (t.code = .ok ∧ t.wrCount.toNat = s.conf.nVendor + 7 ∧ t.lastCmd = s.conf.cmdRamwr ∧ t.armed = true ∧
      t.trace = s.trace ++ [.accept 0x1 a b c d] ++ okEvents (initProg s.conf) ++ [.done .ok]) ∨
    (t.code = .hwError ∧ t.armed = false ∧
      ∃ k cmd params, (initProg s.conf)[k]? = some (.write cmd params) ∧
        t.wrCount.toNat = writesIn ((initProg s.conf).take k) + 1 ∧ t.wrCount.toNat ≤ s.conf.nVendor + 7 ∧
        t.lastCmd = cmd ∧
        t.trace = s.trace ++ [.accept 0x1 a b c d] ++ okEvents ((initProg s.conf).take k)
          ++ [.write cmd params .ioError, .done .hwError])

/-- 42_window.md R133, R134: a SETWIN answered `ok` throughout leaves exactly three writes, `EvDone(OK)`, the counts
and the armed state; one that fails ends with `HW_ERROR` after write `n` in 1 to 3, disarmed. -/
def Obligations.SetwinRunOutcome : Prop :=
  ∀ (xs ys xe ye : U16) (s u t : State), SeqInv s → s.phase = .idle →
    exec (.setwin xs ys xe ye) s = .next u → OpRun u t →
    (t.code = .ok ∧ t.wrCount = 3 ∧ t.lastCmd = s.conf.cmdRamwr ∧ t.armed = true ∧
      t.trace = s.trace ++ [.accept 0x2 xs ys xe ye,
        .write s.conf.cmdCaset (coordPair xs xe) .ok, .write s.conf.cmdRaset (coordPair ys ye) .ok,
        .write s.conf.cmdRamwr [] .ok, .done .ok]) ∨
    (t.code = .hwError ∧ t.armed = false ∧
      ∃ n, 1 ≤ n ∧ n ≤ 3 ∧ t.wrCount.toNat = n ∧
        ∃ cmd params, (winProg s.conf xs ys xe ye)[n - 1]? = some (.write cmd params) ∧ t.lastCmd = cmd ∧
          t.trace = s.trace ++ [.accept 0x2 xs ys xe ye] ++ okEvents ((winProg s.conf xs ys xe ye).take (n - 1))
            ++ [.write cmd params .ioError, .done .hwError])

/-- 43_orientation.md R146, 44_gamma.md R158: a SETORI or a SETGAM that sends anything leaves memory-write mode
disarmed, whatever was armed before and however the channel answered. -/
def Obligations.OtherWritesDisarm : Prop :=
  ∀ (i : Instr) (s u t : State), SeqInv s → s.phase = .idle →
    ((∃ rot b c d, i = .setori rot b c d) ∨ (∃ len b c d, i = .setgam len b c d)) →
    exec i s = .next u → u.prog ≠ [] → OpRun u t → t.armed = false

/-- 43_orientation.md R142, 44_gamma.md R152, 30_encoding.md R76; 60_exceptions.md R172 to R174: a rejected request
issues no action, completes with its code, and leaves the rest of `STATUS` 0 and the armed state as it was. -/
def Obligations.RejectedRequestSendsNothing : Prop :=
  ∀ (i : Instr) (s u t : State), SeqInv s → s.phase = .idle → exec i s = .next u → OpRun u t →
    (∀ rot b c d, i = .setori rot b c d → rot ∉ [0#16, 90#16, 180#16, 270#16] →
      t.status = 0x00000002 ∧ t.armed = s.armed ∧
      t.trace = s.trace ++ [.accept 0x3 rot b c d, .done .unsupportedRotation]) ∧
    (∀ len b c d, i = .setgam len b c d → len.toNat ≠ s.conf.numCurves * s.conf.numValues →
      t.status = 0x00000003 ∧ t.armed = s.armed ∧
      t.trace = s.trace ++ [.accept 0x4 len b c d, .done .invalidTable]) ∧
    (∀ opc a b c d, i = .rsv opc a b c d → opc ∉ [0x1#4, 0x2#4, 0x3#4, 0x4#4] →
      t.status = 0x00000004 ∧ t.armed = s.armed ∧
      t.trace = s.trace ++ [.accept opc a b c d, .done .illegalOp])
end

