-- ==== Sys2Proof/Laws/Memory.lean ====
section
/-! SUPPORT. The laws of the gamma table memory: read after write, and the canonical form is kept. -/

namespace Sys2Proof.Machine

/-- A read after a write to the same index gives the value written. -/
@[simp] theorem Memory.read_write_same (m : List Host.Cell) (i : Nat) (v : Byte) :
    Memory.read (Memory.write m i v) i = some v := by
  induction m with
  | nil => simp [Memory.write, Memory.read]
  | cons c m ih =>
    obtain ⟨j, u⟩ := c
    by_cases h1 : i < j
    · simp [Memory.write, Memory.read, h1]
    · by_cases h2 : i = j
      · simp [Memory.write, Memory.read, h2]
      · simp [Memory.write, Memory.read, h1, h2, Ne.symm h2, ih]

/-- A write leaves every other index alone. -/
theorem Memory.read_write_other (m : List Host.Cell) (i k : Nat) (v : Byte) (h : k ≠ i) :
    Memory.read (Memory.write m i v) k = Memory.read m k := by
  induction m with
  | nil => simp [Memory.write, Memory.read, Ne.symm h]
  | cons c m ih =>
    obtain ⟨j, u⟩ := c
    by_cases h1 : i < j
    · simp [Memory.write, Memory.read, h1, Ne.symm h]
    · by_cases h2 : i = j
      · subst h2
        simp [Memory.write, Memory.read, Ne.symm h]
      · simp [Memory.write, Memory.read, h1, h2, ih]

/-- A smaller lower bound also holds. -/
theorem Memory.rising_mono {lo lo' : Nat} (h : lo' ≤ lo) (m : List Host.Cell)
    (hm : Memory.rising lo m = true) : Memory.rising lo' m = true := by
  cases m with
  | nil => rfl
  | cons c m =>
    obtain ⟨j, u⟩ := c
    simp only [Memory.rising, Bool.and_eq_true, decide_eq_true_eq] at hm ⊢
    exact ⟨h.trans hm.1, hm.2⟩

/-- A write keeps the indices strictly rising. -/
theorem Memory.rising_write (m : List Host.Cell) (lo i : Nat) (v : Byte) (hi : lo ≤ i)
    (hm : Memory.rising lo m = true) : Memory.rising lo (Memory.write m i v) = true := by
  induction m generalizing lo with
  | nil => simp [Memory.write, Memory.rising, hi]
  | cons c m ih =>
    obtain ⟨j, u⟩ := c
    simp only [Memory.rising, Bool.and_eq_true, decide_eq_true_eq] at hm
    unfold Memory.write
    split
    · rename_i h
      simp only [Memory.rising, Bool.and_eq_true, decide_eq_true_eq]
      exact ⟨hi, h, hm.2⟩
    · split
      · rename_i h
        subst h
        simp only [Memory.rising, Bool.and_eq_true, decide_eq_true_eq]
        exact ⟨hi, hm.2⟩
      · simp only [Memory.rising, Bool.and_eq_true, decide_eq_true_eq]
        exact ⟨hm.1, ih (j + 1) (by omega) hm.2⟩

/-- A write lists no index but its own and the old ones. -/
theorem Memory.all_write (m : List Host.Cell) (i depth : Nat) (v : Byte) (hi : i < depth)
    (hm : (m.all fun c => decide (c.1 < depth)) = true) :
    ((Memory.write m i v).all fun c => decide (c.1 < depth)) = true := by
  induction m with
  | nil => simp [Memory.write, hi]
  | cons c m ih =>
    obtain ⟨j, u⟩ := c
    simp only [List.all_cons, Bool.and_eq_true, decide_eq_true_eq] at hm
    unfold Memory.write
    split
    · simp only [List.all_cons, Bool.and_eq_true, decide_eq_true_eq]
      exact ⟨hi, hm⟩
    · split
      · simp only [List.all_cons, Bool.and_eq_true, decide_eq_true_eq]
        exact ⟨hi, hm.2⟩
      · simp only [List.all_cons, Bool.and_eq_true, decide_eq_true_eq]
        exact ⟨hm.1, ih hm.2⟩

/-- The one memory operation keeps the canonical form. -/
theorem Memory.wf_store (depth : Nat) (m : List Host.Cell) (i : Nat) (v : Byte)
    (hm : Memory.wf depth m = true) : Memory.wf depth (Memory.store depth m i v) = true := by
  unfold Memory.store
  split
  · simp only [Memory.wf, Bool.and_eq_true] at hm ⊢
    exact ⟨Memory.rising_write m 0 i v (Nat.zero_le i) hm.1, Memory.all_write m i depth v ‹_› hm.2⟩
  · exact hm

/-- What a store does: in range it writes its one index, out of range nothing (20_memory.md R52). -/
theorem Memory.read_store (depth : Nat) (m : List Host.Cell) (i k : Nat) (v : Byte) :
    Memory.read (Memory.store depth m i v) k =
      if k = i ∧ i < depth then some v else Memory.read m k := by
  unfold Memory.store
  by_cases hd : i < depth
  · by_cases hk : k = i
    · simp [hd, hk]
    · simp [hd, hk, Memory.read_write_other m i k v hk]
  · simp [hd]

/-- A block of reads answers one byte per index. -/
@[simp] theorem readGts_length (gt : List Host.Cell) (is : List Nat) (n : Nat) :
    (readGts gt is n).1.length = is.length := by
  induction is generalizing n with
  | nil => rfl
  | cons i is ih => simp [readGts, ih]

/-- A written entry is read as its value, with no draw. -/
theorem readGt_written {gt : List Host.Cell} {i : Nat} {v : Byte} (n : Nat)
    (h : Memory.read gt i = some v) : readGt gt i n = (v, n) := by
  simp [readGt, h]

/-- Entries that all hold a value are read without a draw. -/
theorem readGts_written {gt : List Host.Cell} {f : Nat → Byte} (is : List Nat) (n : Nat)
    (h : ∀ i ∈ is, Memory.read gt i = some (f i)) : readGts gt is n = (is.map f, n) := by
  induction is with
  | nil => rfl
  | cons i is ih =>
    have hi := readGt_written n (h i (by simp))
    have ht := ih fun j hj => h j (by simp [hj])
    simp [readGts, hi, ht]

end Sys2Proof.Machine
end

