-- ==== Sys2Proof/Laws/State.lean ====
section
/-! SUPPORT. One lemma per field per named update of the state, so that no proof unfolds a record update. -/

namespace Sys2Proof.Machine

@[simp] theorem record_cfg (e : Event) (s : State) : (record e s).cfg = s.cfg := rfl
@[simp] theorem record_phase (e : Event) (s : State) : (record e s).phase = s.phase := rfl
@[simp] theorem record_op (e : Event) (s : State) : (record e s).op = s.op := rfl
@[simp] theorem record_opa (e : Event) (s : State) : (record e s).opa = s.opa := rfl
@[simp] theorem record_opb (e : Event) (s : State) : (record e s).opb = s.opb := rfl
@[simp] theorem record_opc (e : Event) (s : State) : (record e s).opc = s.opc := rfl
@[simp] theorem record_opd (e : Event) (s : State) : (record e s).opd = s.opd := rfl
@[simp] theorem record_seqIdx (e : Event) (s : State) : (record e s).seqIdx = s.seqIdx := rfl
@[simp] theorem record_seqPast (e : Event) (s : State) : (record e s).seqPast = s.seqPast := rfl
@[simp] theorem record_position (e : Event) (s : State) : (record e s).position = s.position := rfl
@[simp] theorem record_prog (e : Event) (s : State) : (record e s).prog = s.prog := rfl
@[simp] theorem record_endCode (e : Event) (s : State) : (record e s).endCode = s.endCode := rfl
@[simp] theorem record_code (e : Event) (s : State) : (record e s).code = s.code := rfl
@[simp] theorem record_wrCount (e : Event) (s : State) : (record e s).wrCount = s.wrCount := rfl
@[simp] theorem record_lastCmd (e : Event) (s : State) : (record e s).lastCmd = s.lastCmd := rfl
@[simp] theorem record_done (e : Event) (s : State) : (record e s).done = s.done := rfl
@[simp] theorem record_waitCtr (e : Event) (s : State) : (record e s).waitCtr = s.waitCtr := rfl
@[simp] theorem record_chValid (e : Event) (s : State) : (record e s).chValid = s.chValid := rfl
@[simp] theorem record_chCmd (e : Event) (s : State) : (record e s).chCmd = s.chCmd := rfl
@[simp] theorem record_chNparams (e : Event) (s : State) : (record e s).chNparams = s.chNparams := rfl
@[simp] theorem record_chParams (e : Event) (s : State) : (record e s).chParams = s.chParams := rfl
@[simp] theorem record_rstReq (e : Event) (s : State) : (record e s).rstReq = s.rstReq := rfl
@[simp] theorem record_gt (e : Event) (s : State) : (record e s).gt = s.gt := rfl
@[simp] theorem record_draws (e : Event) (s : State) : (record e s).draws = s.draws := rfl
@[simp] theorem record_trace (e : Event) (s : State) : (record e s).trace = s.trace ++ [e] := rfl
@[simp] theorem record_abandoned (e : Event) (s : State) : (record e s).abandoned = s.abandoned := rfl
@[simp] theorem record_reqQ (e : Event) (s : State) : (record e s).reqQ = s.reqQ := rfl
@[simp] theorem record_gtQ (e : Event) (s : State) : (record e s).gtQ = s.gtQ := rfl
@[simp] theorem record_env (e : Event) (s : State) : (record e s).env = s.env := rfl

@[simp] theorem launch_cfg (op : U4) (a b c d : U16) (built : Built) (s : State) : (launch op a b c d built s).cfg = s.cfg := rfl
@[simp] theorem launch_phase (op : U4) (a b c d : U16) (built : Built) (s : State) : (launch op a b c d built s).phase = .issue := rfl
@[simp] theorem launch_op (op : U4) (a b c d : U16) (built : Built) (s : State) : (launch op a b c d built s).op = op := rfl
@[simp] theorem launch_opa (op : U4) (a b c d : U16) (built : Built) (s : State) : (launch op a b c d built s).opa = a := rfl
@[simp] theorem launch_opb (op : U4) (a b c d : U16) (built : Built) (s : State) : (launch op a b c d built s).opb = b := rfl
@[simp] theorem launch_opc (op : U4) (a b c d : U16) (built : Built) (s : State) : (launch op a b c d built s).opc = c := rfl
@[simp] theorem launch_opd (op : U4) (a b c d : U16) (built : Built) (s : State) : (launch op a b c d built s).opd = d := rfl
@[simp] theorem launch_seqIdx (op : U4) (a b c d : U16) (built : Built) (s : State) : (launch op a b c d built s).seqIdx = 0 := rfl
@[simp] theorem launch_seqPast (op : U4) (a b c d : U16) (built : Built) (s : State) : (launch op a b c d built s).seqPast = false := rfl
@[simp] theorem launch_position (op : U4) (a b c d : U16) (built : Built) (s : State) : (launch op a b c d built s).position = 0 := rfl
@[simp] theorem launch_prog (op : U4) (a b c d : U16) (built : Built) (s : State) : (launch op a b c d built s).prog = built.prog := rfl
@[simp] theorem launch_endCode (op : U4) (a b c d : U16) (built : Built) (s : State) : (launch op a b c d built s).endCode = built.endCode := rfl
@[simp] theorem launch_code (op : U4) (a b c d : U16) (built : Built) (s : State) : (launch op a b c d built s).code = s.code := rfl
@[simp] theorem launch_wrCount (op : U4) (a b c d : U16) (built : Built) (s : State) : (launch op a b c d built s).wrCount = 0 := rfl
@[simp] theorem launch_lastCmd (op : U4) (a b c d : U16) (built : Built) (s : State) : (launch op a b c d built s).lastCmd = 0 := rfl
@[simp] theorem launch_done (op : U4) (a b c d : U16) (built : Built) (s : State) : (launch op a b c d built s).done = s.done := rfl
@[simp] theorem launch_waitCtr (op : U4) (a b c d : U16) (built : Built) (s : State) : (launch op a b c d built s).waitCtr = s.waitCtr := rfl
@[simp] theorem launch_chValid (op : U4) (a b c d : U16) (built : Built) (s : State) : (launch op a b c d built s).chValid = s.chValid := rfl
@[simp] theorem launch_chCmd (op : U4) (a b c d : U16) (built : Built) (s : State) : (launch op a b c d built s).chCmd = s.chCmd := rfl
@[simp] theorem launch_chNparams (op : U4) (a b c d : U16) (built : Built) (s : State) : (launch op a b c d built s).chNparams = s.chNparams := rfl
@[simp] theorem launch_chParams (op : U4) (a b c d : U16) (built : Built) (s : State) : (launch op a b c d built s).chParams = s.chParams := rfl
@[simp] theorem launch_rstReq (op : U4) (a b c d : U16) (built : Built) (s : State) : (launch op a b c d built s).rstReq = s.rstReq := rfl
@[simp] theorem launch_gt (op : U4) (a b c d : U16) (built : Built) (s : State) : (launch op a b c d built s).gt = s.gt := rfl
@[simp] theorem launch_draws (op : U4) (a b c d : U16) (built : Built) (s : State) : (launch op a b c d built s).draws = built.draws := rfl
@[simp] theorem launch_trace (op : U4) (a b c d : U16) (built : Built) (s : State) : (launch op a b c d built s).trace = s.trace ++ [.accept op a b c d] := rfl
@[simp] theorem launch_abandoned (op : U4) (a b c d : U16) (built : Built) (s : State) : (launch op a b c d built s).abandoned = s.abandoned := rfl
@[simp] theorem launch_reqQ (op : U4) (a b c d : U16) (built : Built) (s : State) : (launch op a b c d built s).reqQ = s.reqQ := rfl
@[simp] theorem launch_gtQ (op : U4) (a b c d : U16) (built : Built) (s : State) : (launch op a b c d built s).gtQ = s.gtQ := rfl
@[simp] theorem launch_env (op : U4) (a b c d : U16) (built : Built) (s : State) : (launch op a b c d built s).env = s.env := rfl

@[simp] theorem complete_cfg (code : Code) (s : State) : (complete code s).cfg = s.cfg := rfl
@[simp] theorem complete_phase (code : Code) (s : State) : (complete code s).phase = .idle := rfl
@[simp] theorem complete_op (code : Code) (s : State) : (complete code s).op = s.op := rfl
@[simp] theorem complete_opa (code : Code) (s : State) : (complete code s).opa = s.opa := rfl
@[simp] theorem complete_opb (code : Code) (s : State) : (complete code s).opb = s.opb := rfl
@[simp] theorem complete_opc (code : Code) (s : State) : (complete code s).opc = s.opc := rfl
@[simp] theorem complete_opd (code : Code) (s : State) : (complete code s).opd = s.opd := rfl
@[simp] theorem complete_seqIdx (code : Code) (s : State) : (complete code s).seqIdx = 0 := rfl
@[simp] theorem complete_seqPast (code : Code) (s : State) : (complete code s).seqPast = false := rfl
@[simp] theorem complete_position (code : Code) (s : State) : (complete code s).position = 0 := rfl
@[simp] theorem complete_prog (code : Code) (s : State) : (complete code s).prog = [] := rfl
@[simp] theorem complete_endCode (code : Code) (s : State) : (complete code s).endCode = s.endCode := rfl
@[simp] theorem complete_code (code : Code) (s : State) : (complete code s).code = code := rfl
@[simp] theorem complete_wrCount (code : Code) (s : State) : (complete code s).wrCount = s.wrCount := rfl
@[simp] theorem complete_lastCmd (code : Code) (s : State) : (complete code s).lastCmd = s.lastCmd := rfl
@[simp] theorem complete_done (code : Code) (s : State) : (complete code s).done = true := rfl
@[simp] theorem complete_waitCtr (code : Code) (s : State) : (complete code s).waitCtr = s.waitCtr := rfl
@[simp] theorem complete_chValid (code : Code) (s : State) : (complete code s).chValid = s.chValid := rfl
@[simp] theorem complete_chCmd (code : Code) (s : State) : (complete code s).chCmd = s.chCmd := rfl
@[simp] theorem complete_chNparams (code : Code) (s : State) : (complete code s).chNparams = s.chNparams := rfl
@[simp] theorem complete_chParams (code : Code) (s : State) : (complete code s).chParams = s.chParams := rfl
@[simp] theorem complete_rstReq (code : Code) (s : State) : (complete code s).rstReq = s.rstReq := rfl
@[simp] theorem complete_gt (code : Code) (s : State) : (complete code s).gt = s.gt := rfl
@[simp] theorem complete_draws (code : Code) (s : State) : (complete code s).draws = s.draws := rfl
@[simp] theorem complete_trace (code : Code) (s : State) : (complete code s).trace = s.trace ++ [.done code] := rfl
@[simp] theorem complete_abandoned (code : Code) (s : State) : (complete code s).abandoned = s.abandoned := rfl
@[simp] theorem complete_reqQ (code : Code) (s : State) : (complete code s).reqQ = s.reqQ := rfl
@[simp] theorem complete_gtQ (code : Code) (s : State) : (complete code s).gtQ = s.gtQ := rfl
@[simp] theorem complete_env (code : Code) (s : State) : (complete code s).env = s.env := rfl

@[simp] theorem blockReset_cfg (s : State) : (blockReset s).cfg = s.cfg := rfl
@[simp] theorem blockReset_phase (s : State) : (blockReset s).phase = .idle := rfl
@[simp] theorem blockReset_op (s : State) : (blockReset s).op = 0 := rfl
@[simp] theorem blockReset_opa (s : State) : (blockReset s).opa = 0 := rfl
@[simp] theorem blockReset_opb (s : State) : (blockReset s).opb = 0 := rfl
@[simp] theorem blockReset_opc (s : State) : (blockReset s).opc = 0 := rfl
@[simp] theorem blockReset_opd (s : State) : (blockReset s).opd = 0 := rfl
@[simp] theorem blockReset_seqIdx (s : State) : (blockReset s).seqIdx = 0 := rfl
@[simp] theorem blockReset_seqPast (s : State) : (blockReset s).seqPast = false := rfl
@[simp] theorem blockReset_position (s : State) : (blockReset s).position = 0 := rfl
@[simp] theorem blockReset_prog (s : State) : (blockReset s).prog = [] := rfl
@[simp] theorem blockReset_endCode (s : State) : (blockReset s).endCode = .ok := rfl
@[simp] theorem blockReset_code (s : State) : (blockReset s).code = .ok := rfl
@[simp] theorem blockReset_wrCount (s : State) : (blockReset s).wrCount = 0 := rfl
@[simp] theorem blockReset_lastCmd (s : State) : (blockReset s).lastCmd = 0 := rfl
@[simp] theorem blockReset_done (s : State) : (blockReset s).done = false := rfl
@[simp] theorem blockReset_waitCtr (s : State) : (blockReset s).waitCtr = 0 := rfl
@[simp] theorem blockReset_chValid (s : State) : (blockReset s).chValid = false := rfl
@[simp] theorem blockReset_chCmd (s : State) : (blockReset s).chCmd = 0 := rfl
@[simp] theorem blockReset_chNparams (s : State) : (blockReset s).chNparams = 0 := rfl
@[simp] theorem blockReset_chParams (s : State) : (blockReset s).chParams = 0 := rfl
@[simp] theorem blockReset_rstReq (s : State) : (blockReset s).rstReq = false := rfl
@[simp] theorem blockReset_gt (s : State) : (blockReset s).gt = s.gt := rfl
@[simp] theorem blockReset_draws (s : State) : (blockReset s).draws = s.draws := rfl
@[simp] theorem blockReset_trace (s : State) : (blockReset s).trace = s.trace ++ [.blockReset] := rfl
@[simp] theorem blockReset_abandoned (s : State) : (blockReset s).abandoned = s.abandoned ++ [s.outstanding] := rfl
@[simp] theorem blockReset_reqQ (s : State) : (blockReset s).reqQ = s.reqQ := rfl
@[simp] theorem blockReset_gtQ (s : State) : (blockReset s).gtQ = s.gtQ := rfl
@[simp] theorem blockReset_env (s : State) : (blockReset s).env = s.env := rfl

@[simp] theorem presentWrite_cfg (cmd : Byte) (params : List Byte) (s : State) : (presentWrite cmd params s).cfg = s.cfg := rfl
@[simp] theorem presentWrite_phase (cmd : Byte) (params : List Byte) (s : State) : (presentWrite cmd params s).phase = .await := rfl
@[simp] theorem presentWrite_op (cmd : Byte) (params : List Byte) (s : State) : (presentWrite cmd params s).op = s.op := rfl
@[simp] theorem presentWrite_opa (cmd : Byte) (params : List Byte) (s : State) : (presentWrite cmd params s).opa = s.opa := rfl
@[simp] theorem presentWrite_opb (cmd : Byte) (params : List Byte) (s : State) : (presentWrite cmd params s).opb = s.opb := rfl
@[simp] theorem presentWrite_opc (cmd : Byte) (params : List Byte) (s : State) : (presentWrite cmd params s).opc = s.opc := rfl
@[simp] theorem presentWrite_opd (cmd : Byte) (params : List Byte) (s : State) : (presentWrite cmd params s).opd = s.opd := rfl
@[simp] theorem presentWrite_seqIdx (cmd : Byte) (params : List Byte) (s : State) : (presentWrite cmd params s).seqIdx = s.seqIdx := rfl
@[simp] theorem presentWrite_seqPast (cmd : Byte) (params : List Byte) (s : State) : (presentWrite cmd params s).seqPast = s.seqPast := rfl
@[simp] theorem presentWrite_position (cmd : Byte) (params : List Byte) (s : State) : (presentWrite cmd params s).position = s.position := rfl
@[simp] theorem presentWrite_prog (cmd : Byte) (params : List Byte) (s : State) : (presentWrite cmd params s).prog = s.prog := rfl
@[simp] theorem presentWrite_endCode (cmd : Byte) (params : List Byte) (s : State) : (presentWrite cmd params s).endCode = s.endCode := rfl
@[simp] theorem presentWrite_code (cmd : Byte) (params : List Byte) (s : State) : (presentWrite cmd params s).code = s.code := rfl
@[simp] theorem presentWrite_wrCount (cmd : Byte) (params : List Byte) (s : State) : (presentWrite cmd params s).wrCount = (countWrite s.wrCount s.draws).1 := rfl
@[simp] theorem presentWrite_lastCmd (cmd : Byte) (params : List Byte) (s : State) : (presentWrite cmd params s).lastCmd = cmd := rfl
@[simp] theorem presentWrite_done (cmd : Byte) (params : List Byte) (s : State) : (presentWrite cmd params s).done = s.done := rfl
@[simp] theorem presentWrite_waitCtr (cmd : Byte) (params : List Byte) (s : State) : (presentWrite cmd params s).waitCtr = s.waitCtr := rfl
@[simp] theorem presentWrite_chValid (cmd : Byte) (params : List Byte) (s : State) : (presentWrite cmd params s).chValid = true := rfl
@[simp] theorem presentWrite_chCmd (cmd : Byte) (params : List Byte) (s : State) : (presentWrite cmd params s).chCmd = cmd := rfl
@[simp] theorem presentWrite_chNparams (cmd : Byte) (params : List Byte) (s : State) : (presentWrite cmd params s).chNparams = countParams params := rfl
@[simp] theorem presentWrite_chParams (cmd : Byte) (params : List Byte) (s : State) : (presentWrite cmd params s).chParams = packParams params := rfl
@[simp] theorem presentWrite_rstReq (cmd : Byte) (params : List Byte) (s : State) : (presentWrite cmd params s).rstReq = s.rstReq := rfl
@[simp] theorem presentWrite_gt (cmd : Byte) (params : List Byte) (s : State) : (presentWrite cmd params s).gt = s.gt := rfl
@[simp] theorem presentWrite_draws (cmd : Byte) (params : List Byte) (s : State) : (presentWrite cmd params s).draws = (countWrite s.wrCount s.draws).2 := rfl
@[simp] theorem presentWrite_trace (cmd : Byte) (params : List Byte) (s : State) : (presentWrite cmd params s).trace = s.trace := rfl
@[simp] theorem presentWrite_abandoned (cmd : Byte) (params : List Byte) (s : State) : (presentWrite cmd params s).abandoned = s.abandoned := rfl
@[simp] theorem presentWrite_reqQ (cmd : Byte) (params : List Byte) (s : State) : (presentWrite cmd params s).reqQ = s.reqQ := rfl
@[simp] theorem presentWrite_gtQ (cmd : Byte) (params : List Byte) (s : State) : (presentWrite cmd params s).gtQ = s.gtQ := rfl
@[simp] theorem presentWrite_env (cmd : Byte) (params : List Byte) (s : State) : (presentWrite cmd params s).env = s.env := rfl

@[simp] theorem presentReset_cfg (s : State) : (presentReset s).cfg = s.cfg := rfl
@[simp] theorem presentReset_phase (s : State) : (presentReset s).phase = .await := rfl
@[simp] theorem presentReset_op (s : State) : (presentReset s).op = s.op := rfl
@[simp] theorem presentReset_opa (s : State) : (presentReset s).opa = s.opa := rfl
@[simp] theorem presentReset_opb (s : State) : (presentReset s).opb = s.opb := rfl
@[simp] theorem presentReset_opc (s : State) : (presentReset s).opc = s.opc := rfl
@[simp] theorem presentReset_opd (s : State) : (presentReset s).opd = s.opd := rfl
@[simp] theorem presentReset_seqIdx (s : State) : (presentReset s).seqIdx = s.seqIdx := rfl
@[simp] theorem presentReset_seqPast (s : State) : (presentReset s).seqPast = s.seqPast := rfl
@[simp] theorem presentReset_position (s : State) : (presentReset s).position = s.position := rfl
@[simp] theorem presentReset_prog (s : State) : (presentReset s).prog = s.prog := rfl
@[simp] theorem presentReset_endCode (s : State) : (presentReset s).endCode = s.endCode := rfl
@[simp] theorem presentReset_code (s : State) : (presentReset s).code = s.code := rfl
@[simp] theorem presentReset_wrCount (s : State) : (presentReset s).wrCount = s.wrCount := rfl
@[simp] theorem presentReset_lastCmd (s : State) : (presentReset s).lastCmd = s.lastCmd := rfl
@[simp] theorem presentReset_done (s : State) : (presentReset s).done = s.done := rfl
@[simp] theorem presentReset_waitCtr (s : State) : (presentReset s).waitCtr = s.waitCtr := rfl
@[simp] theorem presentReset_chValid (s : State) : (presentReset s).chValid = s.chValid := rfl
@[simp] theorem presentReset_chCmd (s : State) : (presentReset s).chCmd = s.chCmd := rfl
@[simp] theorem presentReset_chNparams (s : State) : (presentReset s).chNparams = s.chNparams := rfl
@[simp] theorem presentReset_chParams (s : State) : (presentReset s).chParams = s.chParams := rfl
@[simp] theorem presentReset_rstReq (s : State) : (presentReset s).rstReq = true := rfl
@[simp] theorem presentReset_gt (s : State) : (presentReset s).gt = s.gt := rfl
@[simp] theorem presentReset_draws (s : State) : (presentReset s).draws = s.draws := rfl
@[simp] theorem presentReset_trace (s : State) : (presentReset s).trace = s.trace := rfl
@[simp] theorem presentReset_abandoned (s : State) : (presentReset s).abandoned = s.abandoned := rfl
@[simp] theorem presentReset_reqQ (s : State) : (presentReset s).reqQ = s.reqQ := rfl
@[simp] theorem presentReset_gtQ (s : State) : (presentReset s).gtQ = s.gtQ := rfl
@[simp] theorem presentReset_env (s : State) : (presentReset s).env = s.env := rfl

@[simp] theorem presentWait_cfg (ms : Nat) (s : State) : (presentWait ms s).cfg = s.cfg := rfl
@[simp] theorem presentWait_phase (ms : Nat) (s : State) : (presentWait ms s).phase = .await := rfl
@[simp] theorem presentWait_op (ms : Nat) (s : State) : (presentWait ms s).op = s.op := rfl
@[simp] theorem presentWait_opa (ms : Nat) (s : State) : (presentWait ms s).opa = s.opa := rfl
@[simp] theorem presentWait_opb (ms : Nat) (s : State) : (presentWait ms s).opb = s.opb := rfl
@[simp] theorem presentWait_opc (ms : Nat) (s : State) : (presentWait ms s).opc = s.opc := rfl
@[simp] theorem presentWait_opd (ms : Nat) (s : State) : (presentWait ms s).opd = s.opd := rfl
@[simp] theorem presentWait_seqIdx (ms : Nat) (s : State) : (presentWait ms s).seqIdx = s.seqIdx := rfl
@[simp] theorem presentWait_seqPast (ms : Nat) (s : State) : (presentWait ms s).seqPast = s.seqPast := rfl
@[simp] theorem presentWait_position (ms : Nat) (s : State) : (presentWait ms s).position = s.position := rfl
@[simp] theorem presentWait_prog (ms : Nat) (s : State) : (presentWait ms s).prog = s.prog := rfl
@[simp] theorem presentWait_endCode (ms : Nat) (s : State) : (presentWait ms s).endCode = s.endCode := rfl
@[simp] theorem presentWait_code (ms : Nat) (s : State) : (presentWait ms s).code = s.code := rfl
@[simp] theorem presentWait_wrCount (ms : Nat) (s : State) : (presentWait ms s).wrCount = s.wrCount := rfl
@[simp] theorem presentWait_lastCmd (ms : Nat) (s : State) : (presentWait ms s).lastCmd = s.lastCmd := rfl
@[simp] theorem presentWait_done (ms : Nat) (s : State) : (presentWait ms s).done = s.done := rfl
@[simp] theorem presentWait_waitCtr (ms : Nat) (s : State) : (presentWait ms s).waitCtr = ms * s.conf.cyclesPerMs := rfl
@[simp] theorem presentWait_chValid (ms : Nat) (s : State) : (presentWait ms s).chValid = s.chValid := rfl
@[simp] theorem presentWait_chCmd (ms : Nat) (s : State) : (presentWait ms s).chCmd = s.chCmd := rfl
@[simp] theorem presentWait_chNparams (ms : Nat) (s : State) : (presentWait ms s).chNparams = s.chNparams := rfl
@[simp] theorem presentWait_chParams (ms : Nat) (s : State) : (presentWait ms s).chParams = s.chParams := rfl
@[simp] theorem presentWait_rstReq (ms : Nat) (s : State) : (presentWait ms s).rstReq = s.rstReq := rfl
@[simp] theorem presentWait_gt (ms : Nat) (s : State) : (presentWait ms s).gt = s.gt := rfl
@[simp] theorem presentWait_draws (ms : Nat) (s : State) : (presentWait ms s).draws = s.draws := rfl
@[simp] theorem presentWait_trace (ms : Nat) (s : State) : (presentWait ms s).trace = s.trace := rfl
@[simp] theorem presentWait_abandoned (ms : Nat) (s : State) : (presentWait ms s).abandoned = s.abandoned := rfl
@[simp] theorem presentWait_reqQ (ms : Nat) (s : State) : (presentWait ms s).reqQ = s.reqQ := rfl
@[simp] theorem presentWait_gtQ (ms : Nat) (s : State) : (presentWait ms s).gtQ = s.gtQ := rfl
@[simp] theorem presentWait_env (ms : Nat) (s : State) : (presentWait ms s).env = s.env := rfl

@[simp] theorem advance_cfg (s : State) : (advance s).cfg = s.cfg := rfl
@[simp] theorem advance_phase (s : State) : (advance s).phase = .issue := rfl
@[simp] theorem advance_op (s : State) : (advance s).op = s.op := rfl
@[simp] theorem advance_opa (s : State) : (advance s).opa = s.opa := rfl
@[simp] theorem advance_opb (s : State) : (advance s).opb = s.opb := rfl
@[simp] theorem advance_opc (s : State) : (advance s).opc = s.opc := rfl
@[simp] theorem advance_opd (s : State) : (advance s).opd = s.opd := rfl
@[simp] theorem advance_seqIdx (s : State) : (advance s).seqIdx = (advanceIdx s.seqIdx s.seqPast s.draws).1 := rfl
@[simp] theorem advance_seqPast (s : State) : (advance s).seqPast = (advanceIdx s.seqIdx s.seqPast s.draws).2.1 := rfl
@[simp] theorem advance_prog (s : State) : (advance s).prog = s.prog := rfl
@[simp] theorem advance_endCode (s : State) : (advance s).endCode = s.endCode := rfl
@[simp] theorem advance_code (s : State) : (advance s).code = s.code := rfl
@[simp] theorem advance_wrCount (s : State) : (advance s).wrCount = s.wrCount := rfl
@[simp] theorem advance_lastCmd (s : State) : (advance s).lastCmd = s.lastCmd := rfl
@[simp] theorem advance_done (s : State) : (advance s).done = s.done := rfl
@[simp] theorem advance_waitCtr (s : State) : (advance s).waitCtr = s.waitCtr := rfl
@[simp] theorem advance_chValid (s : State) : (advance s).chValid = s.chValid := rfl
@[simp] theorem advance_chCmd (s : State) : (advance s).chCmd = s.chCmd := rfl
@[simp] theorem advance_chNparams (s : State) : (advance s).chNparams = s.chNparams := rfl
@[simp] theorem advance_chParams (s : State) : (advance s).chParams = s.chParams := rfl
@[simp] theorem advance_rstReq (s : State) : (advance s).rstReq = s.rstReq := rfl
@[simp] theorem advance_gt (s : State) : (advance s).gt = s.gt := rfl
@[simp] theorem advance_draws (s : State) : (advance s).draws = (advanceIdx s.seqIdx s.seqPast s.draws).2.2 := rfl
@[simp] theorem advance_trace (s : State) : (advance s).trace = s.trace := rfl
@[simp] theorem advance_abandoned (s : State) : (advance s).abandoned = s.abandoned := rfl
@[simp] theorem advance_reqQ (s : State) : (advance s).reqQ = s.reqQ := rfl
@[simp] theorem advance_gtQ (s : State) : (advance s).gtQ = s.gtQ := rfl
@[simp] theorem advance_env (s : State) : (advance s).env = s.env := rfl

@[simp] theorem channelOk_cfg (cmd : Byte) (params : List Byte) (s : State) : (channelOk cmd params s).cfg = s.cfg := rfl
@[simp] theorem channelOk_phase (cmd : Byte) (params : List Byte) (s : State) : (channelOk cmd params s).phase = .issue := rfl
@[simp] theorem channelOk_op (cmd : Byte) (params : List Byte) (s : State) : (channelOk cmd params s).op = s.op := rfl
@[simp] theorem channelOk_opa (cmd : Byte) (params : List Byte) (s : State) : (channelOk cmd params s).opa = s.opa := rfl
@[simp] theorem channelOk_opb (cmd : Byte) (params : List Byte) (s : State) : (channelOk cmd params s).opb = s.opb := rfl
@[simp] theorem channelOk_opc (cmd : Byte) (params : List Byte) (s : State) : (channelOk cmd params s).opc = s.opc := rfl
@[simp] theorem channelOk_opd (cmd : Byte) (params : List Byte) (s : State) : (channelOk cmd params s).opd = s.opd := rfl
@[simp] theorem channelOk_seqIdx (cmd : Byte) (params : List Byte) (s : State) : (channelOk cmd params s).seqIdx = (advanceIdx s.seqIdx s.seqPast s.draws).1 := rfl
@[simp] theorem channelOk_seqPast (cmd : Byte) (params : List Byte) (s : State) : (channelOk cmd params s).seqPast = (advanceIdx s.seqIdx s.seqPast s.draws).2.1 := rfl
@[simp] theorem channelOk_prog (cmd : Byte) (params : List Byte) (s : State) : (channelOk cmd params s).prog = s.prog := rfl
@[simp] theorem channelOk_endCode (cmd : Byte) (params : List Byte) (s : State) : (channelOk cmd params s).endCode = s.endCode := rfl
@[simp] theorem channelOk_code (cmd : Byte) (params : List Byte) (s : State) : (channelOk cmd params s).code = s.code := rfl
@[simp] theorem channelOk_wrCount (cmd : Byte) (params : List Byte) (s : State) : (channelOk cmd params s).wrCount = s.wrCount := rfl
@[simp] theorem channelOk_lastCmd (cmd : Byte) (params : List Byte) (s : State) : (channelOk cmd params s).lastCmd = s.lastCmd := rfl
@[simp] theorem channelOk_done (cmd : Byte) (params : List Byte) (s : State) : (channelOk cmd params s).done = s.done := rfl
@[simp] theorem channelOk_waitCtr (cmd : Byte) (params : List Byte) (s : State) : (channelOk cmd params s).waitCtr = s.waitCtr := rfl
@[simp] theorem channelOk_chValid (cmd : Byte) (params : List Byte) (s : State) : (channelOk cmd params s).chValid = false := rfl
@[simp] theorem channelOk_chCmd (cmd : Byte) (params : List Byte) (s : State) : (channelOk cmd params s).chCmd = s.chCmd := rfl
@[simp] theorem channelOk_chNparams (cmd : Byte) (params : List Byte) (s : State) : (channelOk cmd params s).chNparams = s.chNparams := rfl
@[simp] theorem channelOk_chParams (cmd : Byte) (params : List Byte) (s : State) : (channelOk cmd params s).chParams = s.chParams := rfl
@[simp] theorem channelOk_rstReq (cmd : Byte) (params : List Byte) (s : State) : (channelOk cmd params s).rstReq = s.rstReq := rfl
@[simp] theorem channelOk_gt (cmd : Byte) (params : List Byte) (s : State) : (channelOk cmd params s).gt = s.gt := rfl
@[simp] theorem channelOk_draws (cmd : Byte) (params : List Byte) (s : State) : (channelOk cmd params s).draws = (advanceIdx s.seqIdx s.seqPast s.draws).2.2 := rfl
@[simp] theorem channelOk_trace (cmd : Byte) (params : List Byte) (s : State) : (channelOk cmd params s).trace = s.trace ++ [.write cmd params .ok] := rfl
@[simp] theorem channelOk_abandoned (cmd : Byte) (params : List Byte) (s : State) : (channelOk cmd params s).abandoned = s.abandoned := rfl
@[simp] theorem channelOk_reqQ (cmd : Byte) (params : List Byte) (s : State) : (channelOk cmd params s).reqQ = s.reqQ := rfl
@[simp] theorem channelOk_gtQ (cmd : Byte) (params : List Byte) (s : State) : (channelOk cmd params s).gtQ = s.gtQ := rfl
@[simp] theorem channelOk_env (cmd : Byte) (params : List Byte) (s : State) : (channelOk cmd params s).env = s.env := rfl

@[simp] theorem channelErr_cfg (cmd : Byte) (params : List Byte) (s : State) : (channelErr cmd params s).cfg = s.cfg := rfl
@[simp] theorem channelErr_phase (cmd : Byte) (params : List Byte) (s : State) : (channelErr cmd params s).phase = .idle := rfl
@[simp] theorem channelErr_op (cmd : Byte) (params : List Byte) (s : State) : (channelErr cmd params s).op = s.op := rfl
@[simp] theorem channelErr_opa (cmd : Byte) (params : List Byte) (s : State) : (channelErr cmd params s).opa = s.opa := rfl
@[simp] theorem channelErr_opb (cmd : Byte) (params : List Byte) (s : State) : (channelErr cmd params s).opb = s.opb := rfl
@[simp] theorem channelErr_opc (cmd : Byte) (params : List Byte) (s : State) : (channelErr cmd params s).opc = s.opc := rfl
@[simp] theorem channelErr_opd (cmd : Byte) (params : List Byte) (s : State) : (channelErr cmd params s).opd = s.opd := rfl
@[simp] theorem channelErr_seqIdx (cmd : Byte) (params : List Byte) (s : State) : (channelErr cmd params s).seqIdx = 0 := rfl
@[simp] theorem channelErr_seqPast (cmd : Byte) (params : List Byte) (s : State) : (channelErr cmd params s).seqPast = false := rfl
@[simp] theorem channelErr_position (cmd : Byte) (params : List Byte) (s : State) : (channelErr cmd params s).position = 0 := rfl
@[simp] theorem channelErr_prog (cmd : Byte) (params : List Byte) (s : State) : (channelErr cmd params s).prog = [] := rfl
@[simp] theorem channelErr_endCode (cmd : Byte) (params : List Byte) (s : State) : (channelErr cmd params s).endCode = s.endCode := rfl
@[simp] theorem channelErr_code (cmd : Byte) (params : List Byte) (s : State) : (channelErr cmd params s).code = .hwError := rfl
@[simp] theorem channelErr_wrCount (cmd : Byte) (params : List Byte) (s : State) : (channelErr cmd params s).wrCount = s.wrCount := rfl
@[simp] theorem channelErr_lastCmd (cmd : Byte) (params : List Byte) (s : State) : (channelErr cmd params s).lastCmd = s.lastCmd := rfl
@[simp] theorem channelErr_done (cmd : Byte) (params : List Byte) (s : State) : (channelErr cmd params s).done = true := rfl
@[simp] theorem channelErr_waitCtr (cmd : Byte) (params : List Byte) (s : State) : (channelErr cmd params s).waitCtr = s.waitCtr := rfl
@[simp] theorem channelErr_chValid (cmd : Byte) (params : List Byte) (s : State) : (channelErr cmd params s).chValid = false := rfl
@[simp] theorem channelErr_chCmd (cmd : Byte) (params : List Byte) (s : State) : (channelErr cmd params s).chCmd = s.chCmd := rfl
@[simp] theorem channelErr_chNparams (cmd : Byte) (params : List Byte) (s : State) : (channelErr cmd params s).chNparams = s.chNparams := rfl
@[simp] theorem channelErr_chParams (cmd : Byte) (params : List Byte) (s : State) : (channelErr cmd params s).chParams = s.chParams := rfl
@[simp] theorem channelErr_rstReq (cmd : Byte) (params : List Byte) (s : State) : (channelErr cmd params s).rstReq = s.rstReq := rfl
@[simp] theorem channelErr_gt (cmd : Byte) (params : List Byte) (s : State) : (channelErr cmd params s).gt = s.gt := rfl
@[simp] theorem channelErr_draws (cmd : Byte) (params : List Byte) (s : State) : (channelErr cmd params s).draws = s.draws := rfl
@[simp] theorem channelErr_trace (cmd : Byte) (params : List Byte) (s : State) : (channelErr cmd params s).trace = s.trace ++ [.write cmd params .ioError] ++ [.done .hwError] := rfl
@[simp] theorem channelErr_abandoned (cmd : Byte) (params : List Byte) (s : State) : (channelErr cmd params s).abandoned = s.abandoned := rfl
@[simp] theorem channelErr_reqQ (cmd : Byte) (params : List Byte) (s : State) : (channelErr cmd params s).reqQ = s.reqQ := rfl
@[simp] theorem channelErr_gtQ (cmd : Byte) (params : List Byte) (s : State) : (channelErr cmd params s).gtQ = s.gtQ := rfl
@[simp] theorem channelErr_env (cmd : Byte) (params : List Byte) (s : State) : (channelErr cmd params s).env = s.env := rfl

@[simp] theorem resetDone_cfg (s : State) : (resetDone s).cfg = s.cfg := rfl
@[simp] theorem resetDone_phase (s : State) : (resetDone s).phase = .issue := rfl
@[simp] theorem resetDone_op (s : State) : (resetDone s).op = s.op := rfl
@[simp] theorem resetDone_opa (s : State) : (resetDone s).opa = s.opa := rfl
@[simp] theorem resetDone_opb (s : State) : (resetDone s).opb = s.opb := rfl
@[simp] theorem resetDone_opc (s : State) : (resetDone s).opc = s.opc := rfl
@[simp] theorem resetDone_opd (s : State) : (resetDone s).opd = s.opd := rfl
@[simp] theorem resetDone_seqIdx (s : State) : (resetDone s).seqIdx = (advanceIdx s.seqIdx s.seqPast s.draws).1 := rfl
@[simp] theorem resetDone_seqPast (s : State) : (resetDone s).seqPast = (advanceIdx s.seqIdx s.seqPast s.draws).2.1 := rfl
@[simp] theorem resetDone_prog (s : State) : (resetDone s).prog = s.prog := rfl
@[simp] theorem resetDone_endCode (s : State) : (resetDone s).endCode = s.endCode := rfl
@[simp] theorem resetDone_code (s : State) : (resetDone s).code = s.code := rfl
@[simp] theorem resetDone_wrCount (s : State) : (resetDone s).wrCount = s.wrCount := rfl
@[simp] theorem resetDone_lastCmd (s : State) : (resetDone s).lastCmd = s.lastCmd := rfl
@[simp] theorem resetDone_done (s : State) : (resetDone s).done = s.done := rfl
@[simp] theorem resetDone_waitCtr (s : State) : (resetDone s).waitCtr = s.waitCtr := rfl
@[simp] theorem resetDone_chValid (s : State) : (resetDone s).chValid = s.chValid := rfl
@[simp] theorem resetDone_chCmd (s : State) : (resetDone s).chCmd = s.chCmd := rfl
@[simp] theorem resetDone_chNparams (s : State) : (resetDone s).chNparams = s.chNparams := rfl
@[simp] theorem resetDone_chParams (s : State) : (resetDone s).chParams = s.chParams := rfl
@[simp] theorem resetDone_rstReq (s : State) : (resetDone s).rstReq = false := rfl
@[simp] theorem resetDone_gt (s : State) : (resetDone s).gt = s.gt := rfl
@[simp] theorem resetDone_draws (s : State) : (resetDone s).draws = (advanceIdx s.seqIdx s.seqPast s.draws).2.2 := rfl
@[simp] theorem resetDone_trace (s : State) : (resetDone s).trace = s.trace ++ [.reset] := rfl
@[simp] theorem resetDone_abandoned (s : State) : (resetDone s).abandoned = s.abandoned := rfl
@[simp] theorem resetDone_reqQ (s : State) : (resetDone s).reqQ = s.reqQ := rfl
@[simp] theorem resetDone_gtQ (s : State) : (resetDone s).gtQ = s.gtQ := rfl
@[simp] theorem resetDone_env (s : State) : (resetDone s).env = s.env := rfl

@[simp] theorem waitDone_cfg (ms : Nat) (s : State) : (waitDone ms s).cfg = s.cfg := rfl
@[simp] theorem waitDone_phase (ms : Nat) (s : State) : (waitDone ms s).phase = .issue := rfl
@[simp] theorem waitDone_op (ms : Nat) (s : State) : (waitDone ms s).op = s.op := rfl
@[simp] theorem waitDone_opa (ms : Nat) (s : State) : (waitDone ms s).opa = s.opa := rfl
@[simp] theorem waitDone_opb (ms : Nat) (s : State) : (waitDone ms s).opb = s.opb := rfl
@[simp] theorem waitDone_opc (ms : Nat) (s : State) : (waitDone ms s).opc = s.opc := rfl
@[simp] theorem waitDone_opd (ms : Nat) (s : State) : (waitDone ms s).opd = s.opd := rfl
@[simp] theorem waitDone_seqIdx (ms : Nat) (s : State) : (waitDone ms s).seqIdx = (advanceIdx s.seqIdx s.seqPast s.draws).1 := rfl
@[simp] theorem waitDone_seqPast (ms : Nat) (s : State) : (waitDone ms s).seqPast = (advanceIdx s.seqIdx s.seqPast s.draws).2.1 := rfl
@[simp] theorem waitDone_prog (ms : Nat) (s : State) : (waitDone ms s).prog = s.prog := rfl
@[simp] theorem waitDone_endCode (ms : Nat) (s : State) : (waitDone ms s).endCode = s.endCode := rfl
@[simp] theorem waitDone_code (ms : Nat) (s : State) : (waitDone ms s).code = s.code := rfl
@[simp] theorem waitDone_wrCount (ms : Nat) (s : State) : (waitDone ms s).wrCount = s.wrCount := rfl
@[simp] theorem waitDone_lastCmd (ms : Nat) (s : State) : (waitDone ms s).lastCmd = s.lastCmd := rfl
@[simp] theorem waitDone_done (ms : Nat) (s : State) : (waitDone ms s).done = s.done := rfl
@[simp] theorem waitDone_waitCtr (ms : Nat) (s : State) : (waitDone ms s).waitCtr = s.waitCtr := rfl
@[simp] theorem waitDone_chValid (ms : Nat) (s : State) : (waitDone ms s).chValid = s.chValid := rfl
@[simp] theorem waitDone_chCmd (ms : Nat) (s : State) : (waitDone ms s).chCmd = s.chCmd := rfl
@[simp] theorem waitDone_chNparams (ms : Nat) (s : State) : (waitDone ms s).chNparams = s.chNparams := rfl
@[simp] theorem waitDone_chParams (ms : Nat) (s : State) : (waitDone ms s).chParams = s.chParams := rfl
@[simp] theorem waitDone_rstReq (ms : Nat) (s : State) : (waitDone ms s).rstReq = s.rstReq := rfl
@[simp] theorem waitDone_gt (ms : Nat) (s : State) : (waitDone ms s).gt = s.gt := rfl
@[simp] theorem waitDone_draws (ms : Nat) (s : State) : (waitDone ms s).draws = (advanceIdx s.seqIdx s.seqPast s.draws).2.2 := rfl
@[simp] theorem waitDone_trace (ms : Nat) (s : State) : (waitDone ms s).trace = s.trace ++ [.wait ms] := rfl
@[simp] theorem waitDone_abandoned (ms : Nat) (s : State) : (waitDone ms s).abandoned = s.abandoned := rfl
@[simp] theorem waitDone_reqQ (ms : Nat) (s : State) : (waitDone ms s).reqQ = s.reqQ := rfl
@[simp] theorem waitDone_gtQ (ms : Nat) (s : State) : (waitDone ms s).gtQ = s.gtQ := rfl
@[simp] theorem waitDone_env (ms : Nat) (s : State) : (waitDone ms s).env = s.env := rfl

@[simp] theorem beginCycle_cfg (s : State) : (beginCycle s).cfg = s.cfg := rfl
@[simp] theorem beginCycle_phase (s : State) : (beginCycle s).phase = s.phase := rfl
@[simp] theorem beginCycle_op (s : State) : (beginCycle s).op = s.op := rfl
@[simp] theorem beginCycle_opa (s : State) : (beginCycle s).opa = s.opa := rfl
@[simp] theorem beginCycle_opb (s : State) : (beginCycle s).opb = s.opb := rfl
@[simp] theorem beginCycle_opc (s : State) : (beginCycle s).opc = s.opc := rfl
@[simp] theorem beginCycle_opd (s : State) : (beginCycle s).opd = s.opd := rfl
@[simp] theorem beginCycle_seqIdx (s : State) : (beginCycle s).seqIdx = s.seqIdx := rfl
@[simp] theorem beginCycle_seqPast (s : State) : (beginCycle s).seqPast = s.seqPast := rfl
@[simp] theorem beginCycle_position (s : State) : (beginCycle s).position = s.position := rfl
@[simp] theorem beginCycle_prog (s : State) : (beginCycle s).prog = s.prog := rfl
@[simp] theorem beginCycle_endCode (s : State) : (beginCycle s).endCode = s.endCode := rfl
@[simp] theorem beginCycle_code (s : State) : (beginCycle s).code = s.code := rfl
@[simp] theorem beginCycle_wrCount (s : State) : (beginCycle s).wrCount = s.wrCount := rfl
@[simp] theorem beginCycle_lastCmd (s : State) : (beginCycle s).lastCmd = s.lastCmd := rfl
@[simp] theorem beginCycle_done (s : State) : (beginCycle s).done = false := rfl
@[simp] theorem beginCycle_waitCtr (s : State) : (beginCycle s).waitCtr = s.waitCtr := rfl
@[simp] theorem beginCycle_chValid (s : State) : (beginCycle s).chValid = s.chValid := rfl
@[simp] theorem beginCycle_chCmd (s : State) : (beginCycle s).chCmd = s.chCmd := rfl
@[simp] theorem beginCycle_chNparams (s : State) : (beginCycle s).chNparams = s.chNparams := rfl
@[simp] theorem beginCycle_chParams (s : State) : (beginCycle s).chParams = s.chParams := rfl
@[simp] theorem beginCycle_rstReq (s : State) : (beginCycle s).rstReq = s.rstReq := rfl
@[simp] theorem beginCycle_gt (s : State) : (beginCycle s).gt = s.gt := rfl
@[simp] theorem beginCycle_draws (s : State) : (beginCycle s).draws = s.draws := rfl
@[simp] theorem beginCycle_trace (s : State) : (beginCycle s).trace = s.trace := rfl
@[simp] theorem beginCycle_abandoned (s : State) : (beginCycle s).abandoned = s.abandoned := rfl
@[simp] theorem beginCycle_reqQ (s : State) : (beginCycle s).reqQ = s.reqQ ++ s.inputs.req.toList := rfl
@[simp] theorem beginCycle_gtQ (s : State) : (beginCycle s).gtQ = s.gtQ ++ s.inputs.gt.toList := rfl
@[simp] theorem beginCycle_env (s : State) : (beginCycle s).env = s.env.tail := rfl

end Sys2Proof.Machine
end

