-- ==== Sys2Proof/Laws/Ops.lean ====
section
/-! SUPPORT. What each shared operation can do, said once; later proofs cite these instead of unfolding. -/

namespace Sys2Proof.Machine

/-- Accept in IDLE launches the operation. -/
theorem accept_idle {op : U4} {a b c d : U16} {built : Built} {s : State} (h : s.phase = .idle) :
    accept op a b c d built s = .next (launch op a b c d built s) := by
  simp [accept, h]

/-- Accept answers a next state always: the launched operation in IDLE, the same state otherwise. -/
theorem accept_cases {op : U4} {a b c d : U16} {built : Built} {s t : State}
    (h : accept op a b c d built s = .next t) :
    (s.phase = .idle ∧ t = launch op a b c d built s) ∨ (s.phase ≠ .idle ∧ t = s) := by
  unfold accept at h
  split at h <;> simp_all

/-- A GT write in IDLE stores and records. -/
theorem gtWrite_idle {addr : U16} {data : Byte} {s : State} (h : s.phase = .idle) :
    gtWrite addr data s =
      .next (record (.gtWrite addr data)
        { s with gt := Memory.store s.conf.gtDepth s.gt addr.toNat data }) := by
  simp [gtWrite, h]

/-- A GT write answers a next state always. -/
theorem gtWrite_cases {addr : U16} {data : Byte} {s t : State} (h : gtWrite addr data s = .next t) :
    (s.phase = .idle ∧ t = record (.gtWrite addr data)
        { s with gt := Memory.store s.conf.gtDepth s.gt addr.toNat data })
      ∨ (s.phase ≠ .idle ∧ t = s) := by
  unfold gtWrite at h
  split at h <;> simp_all

/-- The block's step in ISSUE, when it answers a next state: it presents the current action or completes. -/
theorem issueStep_cases {s t : State} (h : issueStep s = .next t) :
    (∃ act, s.current = some act ∧ t = present act s)
      ∨ (s.current = none ∧ s.position = s.prog.length ∧ t = complete s.endCode s) := by
  unfold issueStep at h
  split at h
  · rename_i act hc
    exact .inl ⟨act, hc, by simpa using h.symm⟩
  · rename_i hc
    split at h
    · exact .inr ⟨hc, ‹_›, by simpa using h.symm⟩
    · cases h

/-- A cycle in AWAIT, when it answers a next state. -/
theorem awaitStep_cases {inp : Inputs} {s t : State} (h : awaitStep inp s = .next t) :
    (∃ cmd params, s.current = some (.write cmd params) ∧
        ((inp.chDone = true ∧ inp.chErr = false ∧ t = channelOk cmd params s)
          ∨ (inp.chDone = true ∧ inp.chErr = true ∧ t = channelErr cmd params s)
          ∨ (inp.chDone = false ∧ t = s)))
      ∨ (s.current = some .hwReset ∧
        ((inp.rstDone = true ∧ t = resetDone s) ∨ (inp.rstDone = false ∧ t = s)))
      ∨ (∃ ms, s.current = some (.wait ms) ∧
        ((s.waitCtr = 0 ∧ inp.timerLate = false ∧ t = waitDone ms s)
          ∨ (s.waitCtr = 0 ∧ inp.timerLate = true ∧ t = s)
          ∨ (s.waitCtr ≠ 0 ∧ t = { s with waitCtr := s.waitCtr - 1 }))) := by
  unfold awaitStep at h
  split at h
  · rename_i cmd params hc
    refine .inl ⟨cmd, params, hc, ?_⟩
    split at h
    · split at h <;> simp_all
    · simp_all
  · rename_i hc
    refine .inr (.inl ⟨hc, ?_⟩)
    split at h <;> simp_all
  · rename_i ms hc
    refine .inr (.inr ⟨ms, hc, ?_⟩)
    split at h
    · split at h <;> simp_all
    · simp_all
  · cases h

/-- Every instruction answers a next state in every state: it takes effect in IDLE and waits otherwise. -/
theorem exec_total (i : Instr) (s : State) : ∃ t, exec i s = .next t := by
  cases i <;>
    simp only [exec, execInit, execSetwin, execSetori, execSetgam, execRsv, execGtwr, accept, gtWrite] <;>
    cases s.phase <;> exact ⟨_, rfl⟩

/-- The events of the actions up to and including the `k`-th. -/
theorem okEvents_take_succ {prog : List Action} {k : Nat} {act : Action} (h : prog[k]? = some act) :
    okEvents (prog.take (k + 1)) = okEvents (prog.take k) ++ [okEvent act] := by
  simp [okEvents, List.take_add_one, h]

/-- Counting the writes of two lists. -/
@[simp] theorem writesIn_append (as bs : List Action) : writesIn (as ++ bs) = writesIn as + writesIn bs := by
  induction as with
  | nil => simp [writesIn]
  | cons a as ih => cases a <;> simp +arith [writesIn, ih]

/-- The last write of two lists. -/
@[simp] theorem lastWriteCmd_append (last : Byte) (as bs : List Action) :
    lastWriteCmd last (as ++ bs) = lastWriteCmd (lastWriteCmd last as) bs := by
  induction as generalizing last with
  | nil => rfl
  | cons a as ih => cases a <;> simp [lastWriteCmd, ih]

/-- The number of writes is at most the number of actions. -/
theorem writesIn_le (acts : List Action) : writesIn acts ≤ acts.length := by
  induction acts with
  | nil => simp [writesIn]
  | cons a as ih => cases a <;> simp [writesIn] <;> omega

/-- INIT's program has `N_VENDOR + 11` actions (41_initializer.md R121). -/
@[simp] theorem initProg_length (c : Cfg) : (initProg c).length = c.nVendor + 11 := by
  simp [initProg, vendorWrites, winProg, Cfg.nVendor]

/-- SETGAM's program has one write per curve. -/
@[simp] theorem curveWrites_length (c : Cfg) (gt : List Host.Cell) (is : List Nat) (n : Nat) :
    (curveWrites c gt is n).1.length = is.length := by
  induction is generalizing n with
  | nil => rfl
  | cons i is ih => simp [curveWrites, ih]

/-- Every parameter list of SETGAM's program has 15 bytes (44_gamma.md R155). -/
theorem curveWrites_params {c : Cfg} {gt : List Host.Cell} {is : List Nat} {n : Nat} {cmd : Byte}
    {params : List Byte} (h : Action.write cmd params ∈ (curveWrites c gt is n).1) : params.length = 15 := by
  induction is generalizing n with
  | nil => simp [curveWrites] at h
  | cons i is ih =>
    simp only [curveWrites, List.mem_cons, Action.write.injEq] at h
    rcases h with ⟨-, rfl⟩ | h
    · simp [curveIndices]
    · exact ih h

/-- In AWAIT the outstanding action is the one at `SEQ_IDX` (10_state.md R31). -/
theorem outstanding_await {s : State} (h : s.phase = .await) : s.outstanding = s.current := by
  simp [State.outstanding, h]

/-- Only a block reset's delivery depends on the dropped action. -/
theorem eventMayHaveSent_of_ne {ev : Event} {dropped dropped' : Option Action} {bytes : List Byte}
    (hne : ev ≠ .blockReset) (h : eventMayHaveSent dropped ev bytes) : eventMayHaveSent dropped' ev bytes := by
  cases ev with
  | write cmd params result => cases result <;> exact h
  | blockReset => exact absurd rfl hne
  | _ => exact h

/-- What a trace that ends with a block reset may have delivered: what the trace before it may have, and what the
dropped action may have (70_reset_and_hazards.md R191). -/
theorem traceMayHaveSent_blockReset {evs : List Event} {abandoned : List (Option Action)} {dropped : Option Action}
    {bytes : List Byte} (h : abandoned.length = evs.count .blockReset) :
    traceMayHaveSent (evs ++ [.blockReset]) (abandoned ++ [dropped]) bytes ↔
      ∃ settled last, bytes = settled ++ last ∧ traceMayHaveSent evs abandoned settled ∧ mayHaveSent dropped last := by
  induction evs generalizing abandoned bytes with
  | nil =>
    obtain rfl : abandoned = [] := by simpa using h
    simp [traceMayHaveSent, eventMayHaveSent]
  | cons e es ih =>
    simp only [List.cons_append, traceMayHaveSent]
    by_cases he : e = .blockReset
    · subst he
      cases abandoned with
      | nil => simp at h
      | cons y ab =>
        simp only [List.count_cons_self, List.length_cons, Nat.add_right_cancel_iff] at h
        simp only [List.cons_append, List.head?_cons, List.tail_cons, if_true, ih h]
        constructor
        · rintro ⟨f, r, rfl, h1, a, c, rfl, h2, h3⟩
          exact ⟨f ++ a, c, by simp, ⟨f, a, rfl, h1, h2⟩, h3⟩
        · rintro ⟨a, c, rfl, ⟨f, r, rfl, h1, h2⟩, h3⟩
          exact ⟨f, r ++ c, by simp, h1, r, c, rfl, h2, h3⟩
    · have h' : abandoned.length = es.count .blockReset := by rw [h, List.count_cons_of_ne he]
      simp only [if_neg he, ih h']
      constructor
      · rintro ⟨f, r, rfl, h1, a, c, rfl, h2, h3⟩
        exact ⟨f ++ a, c, by simp, ⟨f, a, rfl, eventMayHaveSent_of_ne he h1, h2⟩, h3⟩
      · rintro ⟨a, c, rfl, ⟨f, r, rfl, h1, h2⟩, h3⟩
        exact ⟨f, r ++ c, by simp, eventMayHaveSent_of_ne he h1, r, c, rfl, h2, h3⟩

/-- Below 255 writes the count goes up by one and takes no draw (10_state.md R28). -/
theorem countWrite_of_ne {wrCount : BitVec 8} (draws : Nat) (h : wrCount ≠ 255) :
    countWrite wrCount draws = (wrCount + 1, draws) := if_neg h

/-- At 255 writes the count becomes a free value (log 24). -/
theorem countWrite_full (draws : Nat) : countWrite 255 draws = (Config.freeByte draws, draws + 1) := rfl

/-- Presenting a write keeps `WR_COUNT` telling the number of writes. -/
theorem countShows_presentWrite {s : State} {writes : Nat} (cmd : Byte) (params : List Byte)
    (h : s.countShows writes) : (presentWrite cmd params s).countShows (writes + 1) := by
  intro hle
  have hw : s.wrCount.toNat = writes := h (by omega)
  have hne : s.wrCount ≠ 255 := by
    intro he
    simp [he] at hw
    omega
  rw [presentWrite_wrCount, countWrite_of_ne _ hne]
  simp only [BitVec.toNat_add, hw]
  exact Nat.mod_eq_of_lt (by simpa using Nat.lt_succ_of_le hle)

/-- Below 255 `SEQ_IDX` goes up by one and takes no draw (10_state.md R23). -/
theorem advanceIdx_of_ne {seqIdx : BitVec 8} (seqPast : Bool) (draws : Nat) (h : seqIdx ≠ 255) :
    advanceIdx seqIdx seqPast draws = (seqIdx + 1, seqPast, draws) := if_neg h

/-- At 255 `SEQ_IDX` becomes a free value and `seqPast` says so (log 24). -/
theorem advanceIdx_full (seqPast : Bool) (draws : Nat) :
    advanceIdx 255 seqPast draws = (Config.freeByte draws, true, draws + 1) := rfl

/-- An action done moves the position by exactly one, up to 256 (10_state.md R23). -/
theorem position_advance {s : State} (h : s.position < 256) : (advance s).position = s.position + 1 := by
  have hp : s.seqPast = false := by
    cases hs : s.seqPast
    · rfl
    · simp [State.position, hs] at h
  by_cases he : s.seqIdx = 255
  · simp only [State.position, hp, advance_seqIdx, advance_seqPast, he, advanceIdx_full]
    simp
  · have hlt : s.seqIdx.toNat < 255 := by
      have := s.seqIdx.isLt
      have hne : s.seqIdx.toNat ≠ 255 := fun hc => he (BitVec.eq_of_toNat_eq hc)
      omega
    simp only [State.position, hp, advance_seqIdx, advance_seqPast, advanceIdx_of_ne _ _ he]
    simp
    omega

/-- A successful answer moves the position as `advance` does. -/
@[simp] theorem channelOk_position (cmd : Byte) (params : List Byte) (s : State) :
    (channelOk cmd params s).position = (advance s).position := rfl

/-- The return of the reset function moves the position as `advance` does. -/
@[simp] theorem resetDone_position (s : State) : (resetDone s).position = (advance s).position := rfl

/-- The end of a wait moves the position as `advance` does. -/
@[simp] theorem waitDone_position (ms : Nat) (s : State) : (waitDone ms s).position = (advance s).position := rfl

end Sys2Proof.Machine
end

