-- ==== Sys2Proof/Laws/PerInstr.lean ====
section
/-! SUPPORT. Statements about every instruction as syntax, one lemma per constructor. -/

namespace Sys2Proof.Laws.EncodedOpcode

/-- The operation code of a request instruction (30_encoding.md R71); a `GTWR` has none. -/
def opcodeOf : Instr → Option U4
  | .init _ _ _ _ => some 0x1
  | .setwin _ _ _ _ => some 0x2
  | .setori _ _ _ _ => some 0x3
  | .setgam _ _ _ _ => some 0x4
  | .rsv opc _ _ _ _ => some opc
  | .gtwr _ _ => none

/-- The operation code found in bits 67:64 of a word on the request port (30_encoding.md R70). -/
def opcodeIn : PortWord → Option U4
  | .req w => some (fieldOpcode w)
  | .gt _ => none

/-- The encoder puts an instruction on the right port and its operation code at its place. -/
def Statement (i : Instr) : Prop := opcodeIn (encode i) = opcodeOf i

/-- The operation code of an encoded request. -/
theorem fieldOpcode_encodeReq (op : U4) (a b c d : U16) : fieldOpcode (encodeReq op a b c d) = op := by
  apply BitVec.eq_of_getLsbD_eq
  intro i hi
  simp only [fieldOpcode, encodeReq, BitVec.getLsbD_extractLsb', BitVec.getLsbD_append]
  simp [hi, show ¬ 64 + i < 16 by omega, show ¬ 64 + i - 16 < 16 by omega,
    show ¬ 64 + i - 16 - 16 < 16 by omega, show ¬ 64 + i - 16 - 16 - 16 < 16 by omega,
    show 64 + i - 16 - 16 - 16 - 16 = i by omega]

theorem init (a b c d : U16) : Statement (.init a b c d) :=
  congrArg some (fieldOpcode_encodeReq 0x1#4 a b c d)

theorem setwin (xStart yStart xEnd yEnd : U16) : Statement (.setwin xStart yStart xEnd yEnd) :=
  congrArg some (fieldOpcode_encodeReq 0x2#4 xStart yStart xEnd yEnd)

theorem setori (rotation b c d : U16) : Statement (.setori rotation b c d) :=
  congrArg some (fieldOpcode_encodeReq 0x3#4 rotation b c d)

theorem setgam (len b c d : U16) : Statement (.setgam len b c d) :=
  congrArg some (fieldOpcode_encodeReq 0x4#4 len b c d)

theorem rsv (opc : U4) (a b c d : U16) : Statement (.rsv opc a b c d) :=
  congrArg some (fieldOpcode_encodeReq opc a b c d)

theorem gtwr (addr : U16) (data : Byte) : Statement (.gtwr addr data) := rfl

end Sys2Proof.Laws.EncodedOpcode
end

