-- ==== Sys2Proof/Laws/Step.lean ====
section
/-! SUPPORT. What one step can do. -/

namespace Sys2Proof.Machine

/-- A step with block reset. -/
theorem step_blockReset {s : State} (h : s.inputs.blockReset = true) :
    step s = .next (blockReset (beginCycle s)) := by
  simp only [step, cycle, h, if_true]

/-- A step in IDLE without block reset. -/
theorem step_idle {s : State} (hr : s.inputs.blockReset = false) (hp : s.phase = .idle) :
    step s = idleStep (beginCycle s) := by
  simp only [step, cycle, hr, hp, Bool.false_eq_true, if_false]

/-- A step in ISSUE without block reset. -/
theorem step_issue {s : State} (hr : s.inputs.blockReset = false) (hp : s.phase = .issue) :
    step s = issueStep (beginCycle s) := by
  simp only [step, cycle, hr, hp, Bool.false_eq_true, if_false]

/-- A step in AWAIT without block reset. -/
theorem step_await {s : State} (hr : s.inputs.blockReset = false) (hp : s.phase = .await) :
    step s = awaitStep s.inputs (beginCycle s) := by
  simp only [step, cycle, hr, hp, Bool.false_eq_true, if_false]

/-- No GT word is presented: nothing transfers. -/
theorem takeGt_nil {s : State} (h : s.gtQ = []) : takeGt s = .next s := by
  simp only [takeGt, h]

/-- A GT word is presented: it is executed. -/
theorem takeGt_cons {s : State} {w : GtWord} {rest : List GtWord} (h : s.gtQ = w :: rest) :
    takeGt s = exec (decode (.gt w)) { s with gtQ := rest } := by
  simp only [takeGt, h]

/-- No request word is presented: nothing transfers. -/
theorem takeReq_nil {s : State} (h : s.reqQ = []) : takeReq s = .next s := by
  simp only [takeReq, h]

/-- A request word is presented: it is executed. -/
theorem takeReq_cons {s : State} {w : ReqWord} {rest : List ReqWord} (h : s.reqQ = w :: rest) :
    takeReq s = exec (decode (.req w)) { s with reqQ := rest } := by
  simp only [takeReq, h]

/-- A cycle in IDLE is the GT handshake, then the request handshake. -/
theorem idleStep_of_takeGt {s u : State} (h : takeGt s = .next u) : idleStep s = takeReq u := by
  simp only [idleStep, h]

/-- What a GT word leaves: the state with the entry stored and the event recorded. -/
theorem exec_gt_idle {s : State} (w : GtWord) (h : s.phase = .idle) :
    exec (decode (.gt w)) s = .next (record (.gtWrite (fieldAddr w) (fieldData w))
      { s with gt := Memory.store s.conf.gtDepth s.gt (fieldAddr w).toNat (fieldData w) }) := by
  simp only [decode, decodeGt, exec, execGtwr, gtWrite, h]

/-- The action at `SEQ_IDX` is the same at the start of a cycle. -/
@[simp] theorem beginCycle_current (s : State) : (beginCycle s).current = s.current := rfl

/-- One step, when it answers a next state: block reset, the handshakes of IDLE, the block's step in ISSUE, or an
agent's in AWAIT. -/
theorem step_cases {s t : State} (h : step s = .next t) :
    (s.inputs.blockReset = true ∧ t = blockReset (beginCycle s))
      ∨ (s.inputs.blockReset = false ∧ s.phase = .idle ∧ idleStep (beginCycle s) = .next t)
      ∨ (s.inputs.blockReset = false ∧ s.phase = .issue ∧ issueStep (beginCycle s) = .next t)
      ∨ (s.inputs.blockReset = false ∧ s.phase = .await ∧ awaitStep s.inputs (beginCycle s) = .next t) := by
  unfold step cycle at h
  split at h
  · rename_i hr
    exact .inl ⟨hr, by simpa using h.symm⟩
  · rename_i hr
    have hr : s.inputs.blockReset = false := by simpa using hr
    split at h
    · exact .inr (.inl ⟨hr, ‹_›, h⟩)
    · exact .inr (.inr (.inl ⟨hr, ‹_›, h⟩))
    · exact .inr (.inr (.inr ⟨hr, ‹_›, h⟩))

/-- The GT handshake, when it answers a next state. -/
theorem takeGt_cases {s t : State} (h : takeGt s = .next t) :
    (s.gtQ = [] ∧ t = s)
      ∨ ∃ w rest, s.gtQ = w :: rest ∧ exec (decode (.gt w)) { s with gtQ := rest } = .next t := by
  unfold takeGt at h
  split at h
  · exact .inl ⟨‹_›, by simpa using h.symm⟩
  · exact .inr ⟨_, _, ‹_›, h⟩

/-- The request handshake, when it answers a next state. -/
theorem takeReq_cases {s t : State} (h : takeReq s = .next t) :
    (s.reqQ = [] ∧ t = s)
      ∨ ∃ w rest, s.reqQ = w :: rest ∧ exec (decode (.req w)) { s with reqQ := rest } = .next t := by
  unfold takeReq at h
  split at h
  · exact .inl ⟨‹_›, by simpa using h.symm⟩
  · exact .inr ⟨_, _, ‹_›, h⟩

/-- A cycle in IDLE, when it answers a next state: the GT handshake, then the request handshake. -/
theorem idleStep_cases {s t : State} (h : idleStep s = .next t) :
    ∃ u, takeGt s = .next u ∧ takeReq u = .next t := by
  unfold idleStep at h
  split at h
  · exact ⟨_, ‹_›, h⟩
  · cases h
  · cases h

end Sys2Proof.Machine
end

