-- ==== Sys2Proof/Laws/Run.lean ====
section
/-! SUPPORT. A function that runs the operation in flight to its completion, and that it answers only runs. -/

namespace Sys2Proof.Machine

/-- Runs the operation in flight for at most `n` steps, to the state its completion leaves. -/
def runOp : Nat → State → Option State
  | 0, _ => none
  | n + 1, s =>
    if s.busy = true ∧ s.inputs.blockReset = false then
      match step s with
      | .next t => if t.busy = true then runOp n t else some t
      | .fault _ => none
      | .refused _ => none
    else none

/-- What `runOp` answers is the end of a run of the operation. -/
theorem opRun_of_runOp {n : Nat} {s t : State} (h : runOp n s = some t) : OpRun s t := by
  induction n generalizing s with
  | zero => cases h
  | succ n ih =>
    unfold runOp at h
    split at h
    · rename_i hb
      split at h
      · rename_i u hu
        split at h
        · exact .more hb.1 hb.2 hu ‹_› (ih h)
        · rename_i hn
          cases h
          exact .last hb.1 hb.2 hu (by simpa using hn)
      · cases h
      · cases h
    · cases h

end Sys2Proof.Machine
end

