-- ==== Sys2Proof/Tests/Slice0.lean ====
section
/-! SUPPORT. The model's own tests. Every expected value is copied from 95_test_vectors.md (the vector is named) or
from the rule named; witnesses show that the hypotheses of the statements can be met. -/

namespace Sys2Proof.Tests

open Sys2Proof.Machine

/-! ### Decoding: words written out from 30_encoding.md R70, R71, R78 (95_test_vectors.md §3.1) -/

theorem test_decode_init : decode (.req 0x10000000000000000#68) = .init 0 0 0 0 := by decide
theorem test_decode_init_ignored :
    decode (.req 0x1FFFFFFFFFFFFFFFF#68) = .init 0xFFFF 0xFFFF 0xFFFF 0xFFFF := by decide
theorem test_decode_setwin : decode (.req 0x20000000000EF013F#68) = .setwin 0 0 239 319 := by decide
theorem test_decode_setori : decode (.req 0x3005A000000000001#68) = .setori 90 0 0 1 := by decide
theorem test_decode_setori_ignored :
    decode (.req 0x3005A12345678FFFE#68) = .setori 90 0x1234 0x5678 0xFFFE := by decide
theorem test_decode_setgam : decode (.req 0x4001E000000000000#68) = .setgam 30 0 0 0 := by decide
theorem test_decode_reserved_low : decode (.req 0x00000000000000000#68) = .rsv 0 0 0 0 0 := by decide
theorem test_decode_reserved_high : decode (.req 0xF1234000000000000#68) = .rsv 15 0x1234 0 0 0 := by decide
theorem test_decode_reserved_five : decode (.req 0x50000000000000000#68) = .rsv 5 0 0 0 0 := by decide
theorem test_decode_gtwr : decode (.gt 0x001D0F#24) = .gtwr 29 0x0F := by decide
theorem test_table_word_request : decodeTableWord 72 0x2000A0014006400C8 = some (.setwin 10 20 100 200) := by decide
theorem test_table_word_gt : decodeTableWord 24 0x001EAA = some (.gtwr 30 0xAA) := by decide
theorem test_raw_bits_no_port : portWord 32 0 = .error (.noSuchPort 32) := by decide
theorem test_raw_bits_too_wide : portWord 72 (2 ^ 68) = .error (.tooWide 72 (2 ^ 68)) := by decide
theorem test_asm_setori : encode (Asm.setori 90 true) = .req 0x3005A000000000001#68 := by decide
theorem test_asm_setwin_full : encode (Asm.setwinFull 240 320) = .req 0x20000000000EF013F#68 := by decide
theorem test_asm_setgam_table :
    Asm.setgamTable [0x0F, 0x31] = [.gtwr 0 0x0F, .gtwr 1 0x31, .setgam 2 0 0 0] := by decide

/-! ### WellFormed and configuration legality: one ill-formed term per check -/

theorem test_wellFormed_reserved : (Instr.rsv 0x7 0 0 0 0).wellFormed = true := by decide
theorem test_wellFormed_refuses_taken_codes :
    [0x1#4, 0x2#4, 0x3#4, 0x4#4].all (fun o => !(Instr.rsv o 0 0 0 0).wellFormed) = true := by decide

/-- `SAMPLE_VENDOR_BLOCK` (95_test_vectors.md §1): test data, not this hardware's table. -/
def sampleVendor : List VendorEntry :=
  [⟨0xCF, [0x00, 0xC1, 0x30]⟩, ⟨0xED, [0x64, 0x03, 0x12, 0x81]⟩, ⟨0xE8, [0x85, 0x00, 0x78]⟩,
   ⟨0xCB, [0x39, 0x2C, 0x00, 0x34, 0x02]⟩, ⟨0xF7, [0x20]⟩, ⟨0xEA, [0x00, 0x00]⟩, ⟨0xC0, [0x23]⟩, ⟨0xC1, [0x10]⟩,
   ⟨0xC5, [0x3E, 0x28]⟩, ⟨0xC7, [0x86]⟩, ⟨0x36, [0x48]⟩, ⟨0x3A, [0x55]⟩, ⟨0xB0, [0x00]⟩, ⟨0xB1, [0x00, 0x18]⟩,
   ⟨0xB6, [0x08, 0x82, 0x27]⟩, ⟨0xF2, [0x00]⟩, ⟨0x26, [0x01]⟩, ⟨0xB7, [0x07]⟩]

/-- The default `Cfg` with the sample vendor block. -/
def sample : Cfg := Cfg.defaults sampleVendor 0 1

theorem test_sample_legal : sample.legal = true := by decide
theorem test_cfg_refuses_geometry : ({ sample with width := 320 }).toLegal = none := by decide
theorem test_cfg_refuses_values : ({ sample with numValues := 14 }).toLegal = none := by decide
theorem test_cfg_refuses_curves : ({ sample with numCurves := 0 }).toLegal = none := by decide
theorem test_cfg_refuses_curve_wrap : ({ sample with cmdGammaBase := 0xFF }).toLegal = none := by decide
theorem test_cfg_refuses_depth : ({ sample with gtDepth := 29 }).toLegal = none := by decide
theorem test_cfg_refuses_vendor_params :
    ({ sample with vendorBlock := [⟨0, [0, 0, 0, 0, 0, 0]⟩] }).toLegal = none := by decide
theorem test_cfg_refuses_vendor_length (v : List VendorEntry) (h : v.length = 244) :
    ({ sample with vendorBlock := v }).legalVendorLength = false := by
  simp [Cfg.legalVendorLength, h]
theorem test_cfg_refuses_mx : ({ sample with macMx := 0x80 }).toLegal = none := by decide
theorem test_cfg_refuses_mx_none : ({ sample with macPat0 := 0x00, macMx := 0x00 }).toLegal = none := by decide
theorem test_cfg_refuses_mx_two_bits : ({ sample with macPat0 := 0xC0, macMx := 0xC0 }).toLegal = none := by decide
theorem test_cfg_refuses_mx_is_my : ({ sample with macMy := 0x40 }).toLegal = none := by decide

/-- 256 curves are legal with base command 0 and with no other (00_scope.md R14). -/
theorem test_cfg_curves :
    ({ sample with cmdGammaBase := 0, numCurves := 256, gtDepth := 3840 }).legal = true ∧
      ({ sample with cmdGammaBase := 1, numCurves := 256, gtDepth := 3840 }).legal = false := by decide

theorem test_cfg_refuses_equal_mac : ({ sample with macBgr := 0 }).toLegal = none := by decide
theorem test_cfg_refuses_short_delay : ({ sample with tSlpoutMs := 119 }).toLegal = none := by decide

/-- The default patterns are the bits that 00_scope.md R10 names beside them. -/
theorem test_default_patterns_are_their_bits :
    sample.macPat0 = sample.macMx ∧ sample.macPat90 = sample.macMy ||| sample.macMx ||| sample.macMv ∧
      sample.macPat180 = sample.macMy ∧ sample.macPat270 = sample.macMv ||| sample.macMl := by decide

/-! ### The instructions, one step each -/

/-- The machine after reset with the sample configuration. -/
def boot : State := { State.reset with cfg := ⟨sample, test_sample_legal⟩ }

/-- The state an instruction leaves. -/
def after (i : Instr) (s : State) : State :=
  match exec i s with
  | .next t => t
  | .fault _ => s
  | .refused _ => s

/-- V-W3. -/
theorem test_setwin_bytes : (after (.setwin 0x1234 0x5678 0x9ABC 0xDEF0) boot).prog =
    [.write 0x2A [0x12, 0x34, 0x9A, 0xBC], .write 0x2B [0x56, 0x78, 0xDE, 0xF0], .write 0x2C []] := by decide

/-- V-W5. -/
theorem test_setwin_byte_boundary : (after (.setwin 255 256 256 511) boot).prog =
    [.write 0x2A [0x00, 0xFF, 0x01, 0x00], .write 0x2B [0x01, 0x00, 0x01, 0xFF], .write 0x2C []] := by decide

/-- V-O1 to V-O8. -/
theorem test_setori_values :
    [0#16, 90, 180, 270].flatMap (fun r => [(after (.setori r 0 0 0) boot).prog, (after (.setori r 0 0 1) boot).prog]) =
      [[.write 0x36 [0x40]], [.write 0x36 [0x48]], [.write 0x36 [0xE0]], [.write 0x36 [0xE8]],
       [.write 0x36 [0x80]], [.write 0x36 [0x88]], [.write 0x36 [0x30]], [.write 0x36 [0x38]]] := by decide

/-- V-O9 to V-O12: no modulo. -/
theorem test_setori_unsupported :
    [1#16, 45, 360, 0xFFFF].all (fun r => (after (.setori r 0 0 1) boot).prog == [] &&
      (after (.setori r 0 0 1) boot).endCode == .unsupportedRotation) = true := by decide

/-- `Cfg` of V-G9: NUM_VALUES 16, GT_DEPTH 32. -/
def wide : LegalCfg := ⟨{ sample with numValues := 16, gtDepth := 32 }, by decide⟩

/-- V-G9: `GT[15]` and `GT[31]` are not sent. -/
theorem test_setgam_rows :
    (after (.setgam 32 0 0 0) { boot with
      cfg := wide, gt := (List.range 32).map fun k => (k, BitVec.ofNat 8 k) }).prog =
      [.write 0xE0 ((List.range 15).map fun k => BitVec.ofNat 8 k),
       .write 0xE1 ((List.range 15).map fun k => BitVec.ofNat 8 (k + 16))] := by decide

/-- V-G2 to V-G5. -/
theorem test_setgam_lengths :
    [0#16, 29, 31, 0xFFFF].all (fun n => (after (.setgam n 0 0 0) boot).prog == [] &&
      (after (.setgam n 0 0 0) boot).endCode == .invalidTable) = true := by decide

/-- V-I6: 11 actions without a vendor block, in the order of 41_initializer.md R111. -/
theorem test_init_program :
    (after (.init 0 0 0 0) { boot with cfg := ⟨Cfg.defaults [] 0 1, by decide⟩ }).prog =
      [.hwReset, .write 0x01 [], .wait 5, .write 0x28 [], .write 0x11 [], .wait 120, .write 0x29 [], .wait 20,
       .write 0x2A [0x00, 0x00, 0x00, 0xEF], .write 0x2B [0x00, 0x00, 0x01, 0x3F], .write 0x2C []] := by decide

/-- V-I1: 29 actions; the 12th is vendor entry 7, `C1 [10]`. -/
theorem test_init_vendor :
    (after (.init 1 2 3 4) boot).prog.length = 29 ∧
      (after (.init 1 2 3 4) boot).prog[11]? = some (.write 0xC1 [0x10]) := by decide

/-- V-E7 to V-E9: accepted, no action. -/
theorem test_rsv :
    (after (.rsv 5 1 2 3 4) boot).phase = .issue ∧ (after (.rsv 5 1 2 3 4) boot).prog = [] ∧
      (after (.rsv 5 1 2 3 4) boot).endCode = .illegalOp ∧ (after (.rsv 5 1 2 3 4) boot).opc = 3 := by decide

/-- V-E10. -/
theorem test_gtwr : (after (.gtwr 29 0x0F) { boot with gt := [(3, 1), (30, 2)] }).gt =
    [(3, 1), (29, 0x0F), (30, 2)] := by decide

/-- V-E11: dropped, the event recorded. -/
theorem test_gtwr_dropped : (after (.gtwr 30 0xAA) boot).gt = [] ∧
    (after (.gtwr 30 0xAA) boot).trace = [.gtWrite 30 0xAA] := by decide

/-! ### Outputs and single steps -/

/-- The `STATUS` words of V-W9 and V-I2, and BUSY alone. -/
theorem test_status_words :
    ({ boot with code := .hwError, wrCount := 3, lastCmd := 0x2C } : State).status = 0x002C0301 ∧
      ({ boot with code := .hwError, wrCount := 10, lastCmd := 0xC1 } : State).status = 0x00C10A01 ∧
      ({ boot with phase := .await } : State).status = 0x00000008 := by decide

/-- 30_encoding.md R79. -/
theorem test_pack_params : packParams [0x11, 0x22, 0x33] = 0x332211 ∧ countParams [0x11, 0x22, 0x33] = 3 := by decide

/-- V-W9, P1: armed by a successful RAMWR only, ended by SETORI's write (90_conflicts.md C6). -/
theorem test_armed :
    armedTrace 0x2C [.write 0x2B [1] .ok, .write 0x2C [] .ok, .done .ok] = true ∧
      armedTrace 0x2C [.write 0x2C [] .ioError, .done .hwError] = false ∧
      armedTrace 0x2C [.write 0x2C [] .ok, .done .ok, .accept 3 0 0 0 0, .write 0x36 [0x40] .ok] = false ∧
      armedTrace 0x2C [.write 0x2C [] .ok, .blockReset] = false := by decide

/-- The state a step leaves. -/
def stepped (s : State) : State :=
  match step s with
  | .next t => t
  | .fault _ => s
  | .refused _ => s

/-- `GT` filled with zeros. -/
def zeros : List Host.Cell := (List.range 30).map fun k => (k, 0#8)

/-- V-S3: a GT word and a SETGAM in the same cycle; SETGAM sends the new byte. -/
theorem test_same_cycle :
    (stepped { boot with gt := zeros, gtQ := [0x0000FF#24], reqQ := [0x4001E000000000000#68] }).prog[0]? =
      some (.write 0xE0 (0xFF :: List.replicate 14 0)) := by decide

/-- V-S2: a GT word presented while busy waits, and `GT` keeps its bytes. -/
theorem test_gt_word_waits :
    (stepped { boot with phase := .await, prog := [.hwReset], gtQ := [0x0000FF#24] }).gtQ = [0x0000FF#24] ∧
      (stepped { boot with phase := .await, prog := [.hwReset], gtQ := [0x0000FF#24] }).gt = [] := by decide

/-- A wait in progress. -/
def waiting : State :=
  { boot with phase := .await, prog := [.wait 120], waitCtr := 7, wrCount := 21, lastCmd := 0x11, gt := zeros }

/-- V-S4: block reset during a wait. -/
theorem test_block_reset :
    (stepped { waiting with env := [{ Inputs.quiet with blockReset := true }] }).status = 0 ∧
      (stepped { waiting with env := [{ Inputs.quiet with blockReset := true }] }).trace = [.blockReset] ∧
      (stepped { waiting with env := [{ Inputs.quiet with blockReset := true }] }).gt = zeros := by decide

/-- The words of the table rows run as the first instruction after reset, whatever the open values are. -/
theorem test_first_instruction :
    (stepped (State.reset.withFetchWord 72 0x2000A0014006400C8)).opb = 20 ∧
      (stepped (State.reset.withFetchWord 24 0x001D0F)).gt = [(29, 0x0F)] := by decide

/-! ### Witnesses: the hypotheses of the statements are met together -/

theorem witness_DecodeInvertsEncode : (Instr.rsv 0xF 1 2 3 4).wellFormed = true := by decide

theorem witness_OpcodeSelectsInstruction :
    (0x10000000000000000#68).extractLsb' 64 4 = 0x1#4 ∧ (0x20000000000000000#68).extractLsb' 64 4 = 0x2#4 ∧
      (0x30000000000000000#68).extractLsb' 64 4 = 0x3#4 ∧ (0x40000000000000000#68).extractLsb' 64 4 = 0x4#4 ∧
      (0x50000000000000000#68).extractLsb' 64 4 ∉ [0x1#4, 0x2#4, 0x3#4, 0x4#4] := by decide

/-- `StepExecutesRequest`, `StepExecutesGtWord`, `IdleBlockWaits`: a request presented, a GT word, neither. -/
theorem witness_Step_handshakes :
    boot.phase = .idle ∧ boot.inputs.blockReset = false ∧
      (beginCycle { boot with reqQ := [0x10000000000000000#68] }).reqQ = [0x10000000000000000#68] ∧
      (beginCycle { boot with reqQ := [0x10000000000000000#68] }).gtQ = [] ∧
      (beginCycle { boot with gtQ := [0x001D0F#24] }).gtQ = [0x001D0F#24] ∧
      (beginCycle { boot with gtQ := [0x001D0F#24] }).reqQ = [] ∧
      (beginCycle boot).gtQ = [] ∧ (beginCycle boot).reqQ = [] := by decide

theorem witness_StepExecutesGtWordFirst :
    (beginCycle { boot with gtQ := [0x001D0F#24], reqQ := [0x4001E000000000000#68] }).gtQ = [0x001D0F#24] ∧
      (beginCycle { boot with gtQ := [0x001D0F#24], reqQ := [0x4001E000000000000#68] }).reqQ =
        [0x4001E000000000000#68] ∧
      ({ boot with gtQ := [0x001D0F#24], reqQ := [0x4001E000000000000#68] } : State).phase = .idle ∧
      ({ boot with gtQ := [0x001D0F#24], reqQ := [0x4001E000000000000#68] } : State).inputs.blockReset = false := by
  decide

/-- The statements whose only hypothesis is `PHASE = IDLE`: INIT, SETWIN, GTWR, `AcceptFollowsBuild`,
`CoordinateBytes`. -/
theorem witness_idle : boot.phase = .idle := by decide

theorem witness_SetoriBuildsMadctlWrite : boot.phase = .idle ∧
    (0#16, Rotation.r0) ∈ [(0#16, Rotation.r0), (90#16, .r90), (180#16, .r180), (270#16, .r270)] ∧
    (270#16, Rotation.r270) ∈ [(0#16, Rotation.r0), (90#16, .r90), (180#16, .r180), (270#16, .r270)] := by decide

theorem witness_SetoriRejectsOtherRotations :
    boot.phase = .idle ∧ 360#16 ∉ [0#16, 90#16, 180#16, 270#16] ∧ 1#16 ∉ [0#16, 90#16, 180#16, 270#16] := by decide

theorem witness_SetgamBuildsCurveWrites :
    boot.phase = .idle ∧ (30#16).toNat = boot.conf.numCurves * boot.conf.numValues ∧
      ∀ k < boot.conf.numCurves * boot.conf.numValues, Memory.read zeros k = some 0#8 := by decide

theorem witness_SetgamSendsEveryWrittenEntry :
    boot.phase = .idle ∧ (30#16).toNat = boot.conf.numCurves * boot.conf.numValues ∧
      Memory.read [(29, 7#8)] (1 * boot.conf.numValues + 14) = some 7#8 := by decide

theorem witness_SetgamRejectsWrongLength :
    boot.phase = .idle ∧ (29#16).toNat ≠ boot.conf.numCurves * boot.conf.numValues ∧
      (31#16).toNat ≠ boot.conf.numCurves * boot.conf.numValues := by decide

theorem witness_ReservedRequestIsAccepted :
    boot.phase = .idle ∧ 0x0#4 ∉ [0x1#4, 0x2#4, 0x3#4, 0x4#4] ∧ 0x5#4 ∉ [0x1#4, 0x2#4, 0x3#4, 0x4#4] := by decide

/-- GTWR at the last entry and at the first index past it. -/
theorem witness_GtwrWritesOneEntry : boot.phase = .idle ∧ (29#16).toNat < boot.conf.gtDepth ∧
    (28 : Nat) ≠ (29#16).toNat ∧ boot.conf.gtDepth ≤ (30#16).toNat := by decide

theorem witness_BusyBlockTakesNoWord : waiting.phase ≠ .idle := by decide

theorem witness_RequestFrame :
    (∃ t, exec (.setwin 1 2 3 4) boot = .next t) ∧ ∀ addr data, Instr.setwin 1 2 3 4 ≠ .gtwr addr data :=
  ⟨⟨_, rfl⟩, (fun _ _ h => nomatch h)⟩

theorem witness_GtwrFrame : ∃ t, exec (.gtwr 29 1) boot = .next t := ⟨_, rfl⟩

theorem witness_IgnoredBitsOnlyLatch :
    boot.phase = .idle ∧ (0x0001#16).getLsbD 0 = (0xFFFF#16).getLsbD 0 ∧
      (∃ t, exec (.init 1 2 3 4) boot = .next t) ∧ (∃ t, exec (.setori 90 0 0 1) boot = .next t) ∧
      ∃ t, exec (.setgam 30 0 0 0) boot = .next t :=
  ⟨rfl, rfl, ⟨_, rfl⟩, ⟨_, rfl⟩, ⟨_, rfl⟩⟩

theorem witness_ChannelParamLayout : (List.replicate 15 0xAB#8).length ≤ 15 ∧ (14 : Nat) < 15 := by decide

theorem witness_EightDistinctMadctlValues :
    macValue boot.conf .r90 true = macValue boot.conf .r90 true ∧ 90#16 ∈ [0#16, 90#16, 180#16, 270#16] ∧
      boot.phase = .idle :=
  ⟨rfl, by decide, rfl⟩

/-- A write about to be presented, the last of its program. -/
def issuing : State := { boot with phase := .issue, prog := [.hwReset, .wait 5, .write 0x36 [0x40]], seqIdx := 2 }

/-- The same write outstanding. -/
def awaiting : State := stepped issuing

/-- A cycle in which the channel and the reset function answer. -/
def answers (chErr : Bool) : Inputs := { Inputs.quiet with chDone := true, chErr := chErr, rstDone := true }

/-- A write to present, with `WR_COUNT` below 255 and at 255. -/
theorem witness_IssuePresentsWrite : issuing.wrCount ≠ 255 ∧ ({ issuing with wrCount := 255 } : State).wrCount = 255 ∧
    issuing.phase = .issue ∧ issuing.inputs.blockReset = false ∧
    issuing.prog[issuing.position]? = some (.write 0x36 [0x40]) := by decide

/-- The 256th write of a SETGAM of 256 curves (R14, R154): the position goes from 255 to 256, the count is a free draw. -/
theorem test_write_256 :
    (advance { issuing with seqIdx := 255 }).position = 256 ∧
      (stepped { issuing with wrCount := 254 }).wrCount = 255 ∧ (stepped { issuing with wrCount := 255 }).draws = 1 := by
  decide

theorem witness_IssuePresentsResetAndWait :
    issuing.phase = .issue ∧ issuing.inputs.blockReset = false ∧
      ({ issuing with seqIdx := 0 } : State).prog[0]? = some .hwReset ∧
      ({ issuing with seqIdx := 1 } : State).prog[1]? = some (.wait 5) := by decide

theorem witness_Channel_answers :
    ({ awaiting with env := [answers false] } : State).phase = .await ∧
      ({ awaiting with env := [answers false] } : State).inputs.blockReset = false ∧
      awaiting.prog[awaiting.position]? = some (.write 0x36 [0x40]) ∧
      ({ awaiting with env := [answers false] } : State).inputs.chDone = true ∧
      ({ awaiting with env := [answers false] } : State).inputs.chErr = false ∧
      ({ awaiting with env := [answers true] } : State).inputs.chErr = true := by decide

theorem witness_ResetDoneAdvances :
    ({ awaiting with seqIdx := 0, env := [answers false] } : State).phase = .await ∧
      ({ awaiting with seqIdx := 0, env := [answers false] } : State).inputs.blockReset = false ∧
      ({ awaiting with seqIdx := 0 } : State).current = some .hwReset ∧
      ({ awaiting with env := [answers false] } : State).inputs.rstDone = true := by decide

/-- A program of 256 actions, the last of which is outstanding: `SEQ_IDX` at 255, for each kind of action. -/
def last256 (act : Action) : State :=
  { awaiting with prog := List.replicate 255 .hwReset ++ [act], seqIdx := 255, env := [answers false] }

/-- The clauses of `ChannelOkAdvances`, `ResetDoneAdvances` and `WaitCountsDownThenEnds` with `SEQ_IDX` at 255, and
with `SEQ_IDX` below. -/
theorem witness_advance_256 :
    awaiting.seqIdx ≠ 255 ∧ (last256 .hwReset).seqIdx = 255 ∧ (last256 .hwReset).phase = .await ∧
      (last256 .hwReset).inputs.blockReset = false ∧ (last256 .hwReset).inputs.rstDone = true ∧
      (last256 .hwReset).inputs.chDone = true ∧ (last256 .hwReset).inputs.chErr = false ∧
      (last256 .hwReset).inputs.timerLate = false ∧ (last256 .hwReset).waitCtr = 0 ∧
      (last256 (.write 0x36 [0x40])).prog[255]? = some (.write 0x36 [0x40]) ∧
      (last256 .hwReset).prog[255]? = some .hwReset ∧ (last256 (.wait 5)).prog[255]? = some (.wait 5) :=
  ⟨by decide, rfl, by decide, rfl, rfl, rfl, rfl, rfl, by decide, rfl, rfl, rfl⟩

/-- A wait at 1, at 0, and at 0 with the timer late. -/
theorem witness_WaitCountsDownThenEnds :
    waiting.phase = .await ∧ waiting.inputs.blockReset = false ∧ waiting.current = some (.wait 120) ∧
      ({ waiting with waitCtr := 1 } : State).waitCtr ≠ 0 ∧ ({ waiting with waitCtr := 0 } : State).waitCtr = 0 ∧
      waiting.inputs.timerLate = false ∧
      ({ waiting with env := [{ Inputs.quiet with timerLate := true }] } : State).inputs.timerLate = true := by decide

theorem witness_ProgramEndCompletes :
    ({ issuing with seqIdx := 3 } : State).phase = .issue ∧ issuing.inputs.blockReset = false ∧
      ({ issuing with seqIdx := 3 } : State).position = issuing.prog.length := by decide

/-- `BlockResetWins`, and the block-reset clause of `ResetStateValues`. -/
theorem witness_BlockResetWins :
    ({ waiting with env := [{ answers true with blockReset := true }] } : State).inputs.blockReset = true := by decide

/-- The outstanding action is a write, and a reset request. -/
theorem witness_SilentAgentHangsBlock :
    awaiting.phase = .await ∧ awaiting.current = some (.write 0x36 [0x40]) ∧
      ((Action.write 0x36 [0x40]).isWrite || (Action.write 0x36 [0x40]).isReset) ∧
      ∀ inp ∈ awaiting.env, inp.blockReset = false ∧ inp.chDone = false ∧ inp.rstDone = false := by decide

theorem witness_SilentAgentHangsBlock_reset :
    ({ awaiting with seqIdx := 0, chValid := false, rstReq := true } : State).phase = .await ∧
      ({ awaiting with seqIdx := 0, chValid := false, rstReq := true } : State).current = some .hwReset ∧
      (Action.hwReset.isWrite || Action.hwReset.isReset) ∧
      ∀ inp ∈ awaiting.env, inp.blockReset = false ∧ inp.chDone = false ∧ inp.rstDone = false := by decide

/-- `BlockResetAbandonsOutstandingWrite`, with a write outstanding of which the command byte has been sent. -/
theorem witness_BlockResetAbandonsOutstandingWrite :
    AbandonedInv awaiting ∧
      ({ awaiting with env := [{ Inputs.quiet with blockReset := true }] } : State).inputs.blockReset = true ∧
      awaiting.phase = .await ∧ awaiting.current = some (.write 0x36 [0x40]) ∧ [0x36#8] <+: [0x36#8, 0x40] ∧
      traceMayHaveSent awaiting.trace awaiting.abandoned [] :=
  ⟨rfl, by decide, by decide, by decide, ⟨[0x40], rfl⟩, rfl⟩

/-- R191: the write that a block reset dropped is noted. -/
theorem test_block_reset_drops :
    (stepped { awaiting with env := [{ Inputs.quiet with blockReset := true }] }).abandoned =
      [some (.write 0x36 [0x40])] := by decide

theorem witness_WaitIsNeverShortened :
    ({ waiting with env := [answers true] } : State).phase = .await ∧ waiting.current = some (.wait 120) ∧
      7 ≤ waiting.waitCtr ∧ ∀ inp ∈ [answers true], inp.blockReset = false := by decide

theorem witness_UnmatchedAnswersIgnored :
    ¬ (boot.phase = .await ∧ ∃ cmd params, boot.current = some (.write cmd params)) ∧
      ¬ (awaiting.phase = .await ∧ awaiting.current = some .hwReset) :=
  ⟨(fun h => nomatch h.1), by decide⟩

/-- The sequencer's invariant holds of a state in each phase. -/
theorem seqInv_boot : SeqInv boot :=
  ⟨by decide, by decide, fun _ => ⟨rfl, rfl, rfl, rfl, rfl⟩, (fun h => nomatch h), (fun h => nomatch h),
   (fun _ _ h => nomatch h), (fun _ h => nomatch h), (fun _ _ h => nomatch h)⟩

/-- A rejected request, just accepted. -/
def rejected : State := after (.rsv 7 0 0 0 0) boot

theorem seqInv_rejected : SeqInv rejected :=
  ⟨by decide, by decide, (fun h => nomatch h), fun _ => ⟨rfl, rfl⟩, (fun h => nomatch h),
   (fun _ _ h => nomatch h), (fun _ h => nomatch h), (fun _ _ h => nomatch h)⟩

/-- A step from a state that meets every invariant (`StepKeeps…`, `ConsistentStateSteps`, `ConstantOutputs`). -/
theorem witness_StepKeeps :
    GtCanonical boot ∧ SeqInv boot ∧ CountInv boot ∧ TraceInv boot ∧ BuiltInv boot ∧ AbandonedInv boot ∧
      ∃ t, step boot = .next t :=
  ⟨rfl, seqInv_boot, (fun h => nomatch h), (fun h => nomatch h), (fun h => nomatch h), rfl, ⟨_, rfl⟩⟩

/-- An accepted SETORI: a busy state that meets every invariant, whose step presents its write. -/
def accepted : State := after (.setori 90 0 0 1) boot

theorem witness_StepKeeps_busy :
    SeqInv accepted ∧ CountInv accepted ∧ TraceInv accepted ∧ BuiltInv accepted ∧ accepted.busy = true ∧
      ∃ t, step accepted = .next t :=
  ⟨⟨by decide, by decide, (fun h => nomatch h), fun _ => ⟨rfl, rfl⟩, (fun h => nomatch h), (fun _ _ h => nomatch h),
     (fun _ h => nomatch h), by
       intro cmd params h
       have hp : accepted.prog = [.write 0x36 [0xE8]] := by decide
       rw [hp] at h
       cases h with
       | head => decide
       | tail _ h => cases h⟩,
   fun _ => ⟨fun _ => rfl, rfl⟩, fun _ => ⟨[], rfl⟩, fun _ => ⟨0, rfl, rfl⟩, by decide, ⟨_, rfl⟩⟩

/-- `GtFrozenWhileBusy`, `LatchesChangeOnlyAtAccept`, `DonePulsesAtCompletion`, `TraceOnlyGrows`,
`CodeChangesOnlyAtCompletion`: busy states with a next state, and a step that changes `CODE`. -/
theorem witness_busy_steps :
    waiting.busy = true ∧ (∃ t, step waiting = .next t) ∧ rejected.inputs.blockReset = false ∧
      (∃ t, step rejected = .next t) ∧ (stepped rejected).code ≠ rejected.code :=
  ⟨by decide, ⟨_, rfl⟩, by decide, ⟨_, rfl⟩, by decide⟩

/-- The outside answers at once, `n` times. -/
def promptly (n : Nat) : List Inputs := List.replicate n (answers false)

theorem witness_PromptAgentsCompleteOperation :
    ({ rejected with env := promptly 1 } : State).busy = true ∧
      opCycles rejected.conf.cyclesPerMs rejected.prog ≤ (promptly 1).length ∧
      SeqInv rejected ∧ ∀ inp ∈ promptly 1, inp.prompt :=
  ⟨by decide, by decide, seqInv_rejected, by
    intro inp h
    have := List.eq_of_mem_replicate h
    subst this
    exact ⟨rfl, rfl, rfl, rfl⟩⟩

/-- A run of the operation that starts where an accept ends, found by `runOp`. -/
theorem witness_run {n : Nat} {s : State} (h : (runOp n s).isSome = true) : ∃ t, OpRun s t :=
  (Option.isSome_iff_exists.mp h).imp fun _ => opRun_of_runOp

theorem witness_OperationOutcome :
    SeqInv rejected ∧ rejected.phase = .issue ∧ rejected.position = 0 ∧ rejected.wrCount = 0 ∧
      rejected.lastCmd = 0 ∧ ∃ t, OpRun rejected t :=
  ⟨seqInv_rejected, rfl, rfl, rfl, rfl, witness_run (n := 1) (by decide)⟩

/-- IDLE, with an outside that will answer at once. -/
def ready : State := { boot with env := promptly 7 }

theorem seqInv_ready : SeqInv ready :=
  ⟨by decide, by decide, fun _ => ⟨rfl, rfl, rfl, rfl, rfl⟩, (fun h => nomatch h), (fun h => nomatch h),
   (fun _ _ h => nomatch h), (fun _ h => nomatch h), (fun _ _ h => nomatch h)⟩

theorem witness_SetwinRunOutcome :
    SeqInv ready ∧ ready.phase = .idle ∧ ∃ u, exec (.setwin 10 20 100 200) ready = .next u ∧ ∃ t, OpRun u t :=
  ⟨seqInv_ready, rfl, _, rfl, witness_run (n := 7) (by decide)⟩

theorem witness_OtherWritesDisarm :
    SeqInv ready ∧ ready.phase = .idle ∧
      (∃ u, exec (.setori 90 0 0 1) ready = .next u ∧ u.prog ≠ [] ∧ ∃ t, OpRun u t) ∧
      ∃ u, exec (.setgam 30 0 0 0) { ready with gt := zeros } = .next u ∧ u.prog ≠ [] ∧ ∃ t, OpRun u t :=
  ⟨seqInv_ready, rfl, ⟨_, rfl, by decide, witness_run (n := 3) (by decide)⟩,
   ⟨_, rfl, by decide, witness_run (n := 5) (by decide)⟩⟩

theorem witness_RejectedRequestSendsNothing :
    SeqInv ready ∧ ready.phase = .idle ∧
      (∃ u, exec (.setori 45 0 0 0) ready = .next u ∧ ∃ t, OpRun u t) ∧ 45#16 ∉ [0#16, 90#16, 180#16, 270#16] ∧
      (∃ u, exec (.setgam 29 0 0 0) ready = .next u ∧ ∃ t, OpRun u t) ∧
      (29#16).toNat ≠ ready.conf.numCurves * ready.conf.numValues ∧
      ∃ u, exec (.rsv 7 0 0 0 0) ready = .next u ∧ ∃ t, OpRun u t :=
  ⟨seqInv_ready, rfl, ⟨_, rfl, witness_run (n := 1) (by decide)⟩, by decide,
   ⟨_, rfl, witness_run (n := 1) (by decide)⟩, by decide, ⟨_, rfl, witness_run (n := 1) (by decide)⟩⟩

/-- INIT whose first write fails (V-I3): the shortest run of INIT. -/
theorem witness_InitRunOutcome :
    SeqInv ready ∧ ready.phase = .idle ∧
      ∃ u, exec (.init 0 0 0 0) { ready with env := [answers true, answers true, answers true, answers true] }
        = .next u ∧ ∃ t, OpRun u t :=
  ⟨seqInv_ready, rfl, _, rfl, witness_run (n := 4) (by decide)⟩

/-- A machine whose vendor block is empty and whose waits take no cycle, and an outside that answers at once. -/
def quick : State := { boot with cfg := ⟨Cfg.defaults [] 0 0, by decide⟩, env := promptly 23 }

/-- V-I6: an INIT that runs to its end. -/
theorem witness_InitRunOutcome_ok :
    ∃ u, exec (.init 0 0 0 0) quick = .next u ∧ (∃ t, OpRun u t) ∧
      (runOp 23 u).map (fun t => (t.status, t.armed)) = some (0x002C0700, true) :=
  ⟨_, rfl, witness_run (n := 23) (by decide), by decide⟩

end Sys2Proof.Tests
end

section
/-! PROOFS. 00_scope.md R18: every part of a step either leaves the trace as it is or appends to it, so no event is
taken back. -/

namespace Sys2Proof.Machine

/-- What an instruction can do, when it answers a next state: it waits while the block is busy; in IDLE a request
launches its operation and a GT write stores its entry. -/
theorem exec_cases {i : Instr} {s t : State} (h : exec i s = .next t) :
    (s.phase ≠ .idle ∧ t = s)
      ∨ (s.phase = .idle ∧ ∃ op a b c d built, t = launch op a b c d built s)
      ∨ (s.phase = .idle ∧ ∃ addr data, t = record (.gtWrite addr data)
          { s with gt := Memory.store s.conf.gtDepth s.gt addr.toNat data }) := by
  cases i with
  | gtwr addr data =>
    obtain ⟨hidle, ht⟩ | hwaits := gtWrite_cases h
    · exact .inr (.inr ⟨hidle, addr, data, ht⟩)
    · exact .inl hwaits
  | _ =>
    obtain ⟨hidle, ht⟩ | hwaits := accept_cases h
    · exact .inr (.inl ⟨hidle, _, _, _, _, _, _, ht⟩)
    · exact .inl hwaits

/-- An instruction appends its `EvAccept` or `EvGtWrite`, or nothing while it waits. -/
theorem exec_trace_prefix {i : Instr} {s t : State} (h : exec i s = .next t) : s.trace <+: t.trace := by
  obtain ⟨-, rfl⟩ | ⟨-, op, a, b, c, d, built, rfl⟩ | ⟨-, addr, data, rfl⟩ := exec_cases h
  · exact List.prefix_rfl
  · exact List.prefix_append _ _
  · exact List.prefix_append _ _

theorem takeGt_trace_prefix {s t : State} (h : takeGt s = .next t) : s.trace <+: t.trace := by
  obtain ⟨-, rfl⟩ | ⟨w, rest, -, hexec⟩ := takeGt_cases h
  · exact List.prefix_rfl
  · simpa using exec_trace_prefix hexec

theorem takeReq_trace_prefix {s t : State} (h : takeReq s = .next t) : s.trace <+: t.trace := by
  obtain ⟨-, rfl⟩ | ⟨w, rest, -, hexec⟩ := takeReq_cases h
  · exact List.prefix_rfl
  · simpa using exec_trace_prefix hexec

/-- Both handshakes of a cycle in IDLE append, the GT port's event first (30_encoding.md R83). -/
theorem idleStep_trace_prefix {s t : State} (h : idleStep s = .next t) : s.trace <+: t.trace := by
  obtain ⟨u, hgt, hreq⟩ := idleStep_cases h
  exact (takeGt_trace_prefix hgt).trans (takeReq_trace_prefix hreq)

/-- Presenting an action is no event: its event comes with the answer (40_sequencer.md R96, R98, R99). -/
@[simp] theorem present_trace (act : Action) (s : State) : (present act s).trace = s.trace := by
  cases act <;> rfl

/-- In ISSUE the trace gets the `EvDone` of a completed program, or nothing. -/
theorem issueStep_trace_prefix {s t : State} (h : issueStep s = .next t) : s.trace <+: t.trace := by
  obtain ⟨act, -, rfl⟩ | ⟨-, -, rfl⟩ := issueStep_cases h
  · simp
  · simp

/-- In AWAIT the trace gets the answered action's event, after a failed write the `EvDone` too, or nothing. -/
theorem awaitStep_trace_prefix {inp : Inputs} {s t : State} (h : awaitStep inp s = .next t) :
    s.trace <+: t.trace := by
  obtain ⟨cmd, params, -, hwrite⟩ | ⟨-, hreset⟩ | ⟨ms, -, hwait⟩ := awaitStep_cases h
  · obtain ⟨-, -, rfl⟩ | ⟨-, -, rfl⟩ | ⟨-, rfl⟩ := hwrite <;> simp
  · obtain ⟨-, rfl⟩ | ⟨-, rfl⟩ := hreset <;> simp
  · obtain ⟨-, -, rfl⟩ | ⟨-, -, rfl⟩ | ⟨-, rfl⟩ := hwait <;> simp

/-- Settles O54: block reset and the block's step in each phase keep the old trace as a prefix. -/
theorem traceOnlyGrows : Obligations.TraceOnlyGrows := by
  intro s t h
  obtain ⟨-, rfl⟩ | ⟨-, -, hidle⟩ | ⟨-, -, hissue⟩ | ⟨-, -, hawait⟩ := step_cases h
  · simp
  · simpa using idleStep_trace_prefix hidle
  · simpa using issueStep_trace_prefix hissue
  · simpa using awaitStep_trace_prefix hawait

end Sys2Proof.Machine
end

section
/-! PROOFS. What the legality of a configuration (00_scope.md R14) bounds, and with it every program R91 builds. -/

namespace Sys2Proof

/-- Legality is its nine checks (00_scope.md R14). -/
theorem Cfg.legal_iff (c : Cfg) :
    c.legal = true ↔
      c.legalGeometry = true ∧ c.legalValues = true ∧ c.legalCurves = true ∧ c.legalDepth = true ∧
        c.legalVendorParams = true ∧ c.legalVendorLength = true ∧ c.legalMx = true ∧
        c.legalMacDistinct = true ∧ c.legalDelays = true := by
  simp only [Cfg.legal, Bool.and_eq_true, and_assoc]

/-- The geometry of every legal configuration is R7's. -/
theorem LegalCfg.geometry (c : LegalCfg) :
    c.val.width = 240 ∧ c.val.height = 320 ∧ c.val.busWidth = 9 ∧ c.val.regWidth = 8 := by
  obtain ⟨hgeometry, -⟩ := c.val.legal_iff.mp c.property
  simpa [Cfg.legalGeometry, and_assoc] using hgeometry

/-- `CMD_GAMMA_BASE` plus the last curve's index fits a byte, so there are at most 256 curves. -/
theorem LegalCfg.numCurves_le (c : LegalCfg) : c.val.numCurves ≤ 256 := by
  obtain ⟨-, -, hcurves, -⟩ := c.val.legal_iff.mp c.property
  have hbound := of_decide_eq_true hcurves
  omega

theorem LegalCfg.nVendor_le (c : LegalCfg) : c.val.nVendor ≤ 243 := by
  obtain ⟨-, -, -, -, -, hlength, -⟩ := c.val.legal_iff.mp c.property
  exact of_decide_eq_true hlength

theorem LegalCfg.vendorParams_le (c : LegalCfg) {e : VendorEntry} (he : e ∈ c.val.vendorBlock) :
    e.params.length ≤ 5 := by
  obtain ⟨-, -, -, -, hparams, -⟩ := c.val.legal_iff.mp c.property
  exact of_decide_eq_true (List.all_eq_true.mp hparams e he)

namespace Machine

/-- A program within the model's bounds: `SEQ_IDX` or 256 can tell every position (10_state.md R23, R24; log 24), and
no write has more than 15 parameters (00_scope.md R17). -/
structure ProgramFits (prog : List Action) : Prop where
  short : prog.length ≤ 256
  paramsShort : ∀ cmd params, Action.write cmd params ∈ prog → params.length ≤ 15

theorem programFits_nil : ProgramFits [] := ⟨Nat.zero_le _, fun _ _ h => nomatch h⟩

@[simp] theorem coordPair_length (first last : U16) : (coordPair first last).length = 4 := rfl

/-- The window writes carry four parameter bytes or none. -/
theorem winProg_params {c : Cfg} {xs ys xe ye : U16} {cmd : Byte} {params : List Byte}
    (h : Action.write cmd params ∈ winProg c xs ys xe ye) : params.length ≤ 4 := by
  simp only [winProg, List.mem_cons, Action.write.injEq, List.not_mem_nil, or_false] at h
  obtain ⟨-, rfl⟩ | ⟨-, rfl⟩ | ⟨-, rfl⟩ := h <;> simp

theorem winProg_fits (c : Cfg) (xs ys xe ye : U16) : ProgramFits (winProg c xs ys xe ye) where
  short := by simp [winProg]
  paramsShort _ _ h := (winProg_params h).trans (by decide)

/-- A write of INIT's program is a bare command, an entry of the vendor block, or a window write
(41_initializer.md R111). -/
theorem mem_initProg_write {c : Cfg} {cmd : Byte} {params : List Byte}
    (h : Action.write cmd params ∈ initProg c) :
    params = [] ∨ (∃ e ∈ c.vendorBlock, params = e.params) ∨
      Action.write cmd params ∈ winProg c 0 0 (c.width - 1) (c.height - 1) := by
  simp only [initProg, vendorWrites, List.mem_append, List.mem_cons, List.not_mem_nil, or_false, List.mem_map,
    Action.write.injEq, reduceCtorEq, false_or] at h
  obtain (((((⟨-, h⟩ | ⟨-, h⟩) | ⟨e, he, -, h⟩) | ⟨-, h⟩) | ⟨-, h⟩) | h) := h
  · exact .inl h
  · exact .inl h
  · exact .inr (.inl ⟨e, he, h.symm⟩)
  · exact .inl h
  · exact .inl h
  · exact .inr (.inr h)

theorem initProg_fits (c : LegalCfg) : ProgramFits (initProg c.val) where
  short := by
    have hvendor := c.nVendor_le
    rw [initProg_length]
    omega
  paramsShort cmd params h := by
    obtain rfl | ⟨e, he, rfl⟩ | hwin := mem_initProg_write h
    · simp
    · exact (c.vendorParams_le he).trans (by decide)
    · exact (winProg_params hwin).trans (by decide)

/-- SETORI builds its one write with one parameter byte, or nothing (43_orientation.md R140, R142). -/
theorem oriBuild_prog (deg : U16) (bgr : Bool) (s : State) :
    (∃ v, (oriBuild deg bgr s).prog = [.write s.conf.cmdMadctl [v]]) ∨ (oriBuild deg bgr s).prog = [] := by
  unfold oriBuild
  split
  · exact .inl ⟨_, rfl⟩
  · exact .inr rfl

/-- SETGAM builds the curve writes or nothing (44_gamma.md R151, R152). -/
theorem gamBuild_prog (len : U16) (s : State) :
    (gamBuild len s).prog = (curveWrites s.conf s.gt (List.range s.conf.numCurves) s.draws).1 ∨
      (gamBuild len s).prog = [] := by
  unfold gamBuild
  split
  · exact .inl rfl
  · exact .inr rfl

theorem oriBuild_fits (deg : U16) (bgr : Bool) (s : State) : ProgramFits (oriBuild deg bgr s).prog := by
  obtain ⟨v, h⟩ | h := oriBuild_prog deg bgr s
  · rw [h]
    exact ⟨by simp, by simp +contextual⟩
  · rw [h]
    exact programFits_nil

theorem gamBuild_fits (len : U16) (s : State) : ProgramFits (gamBuild len s).prog := by
  obtain h | h := gamBuild_prog len s
  · rw [h]
    refine ⟨?_, fun _ _ hmem => (curveWrites_params hmem).le⟩
    simpa using s.cfg.numCurves_le
  · rw [h]
    exact programFits_nil

/-- Every program that R91's `Build` gives is within the bounds. -/
theorem buildR91_fits (op : U4) (a b c d : U16) (s : State) : ProgramFits (buildR91 op a b c d s).prog := by
  unfold buildR91
  split
  · exact initProg_fits s.cfg
  · exact winProg_fits ..
  · exact oriBuild_fits ..
  · exact gamBuild_fits ..
  · exact programFits_nil

/-- `Build` reads the configuration, `GT` and the draw counter, and nothing else (40_sequencer.md R91). -/
theorem buildR91_congr {s t : State} (op : U4) (a b c d : U16) (hcfg : s.cfg = t.cfg) (hgt : s.gt = t.gt)
    (hdraws : s.draws = t.draws) : buildR91 op a b c d s = buildR91 op a b c d t := by
  simp only [buildR91, oriBuild, gamBuild, Built.program, Built.reject, State.conf, hcfg, hgt, hdraws]

end Machine
end Sys2Proof
end

section
/-! PROOFS. What one step can do, in one list of named cases: the transitions of 40_sequencer.md R90 to R100, the
waiting of R94 and R103, and block reset. Every statement about a step is a case split over it. -/

namespace Sys2Proof.Machine

/-- The operation codes with a row of their own are 1 to 4; every other one is `Build`'s last case (30_encoding.md R71,
R76). -/
theorem buildR91_reserved {op : U4} (a b c d : U16) (s : State) (h1 : op ≠ 0x1#4) (h2 : op ≠ 0x2#4)
    (h3 : op ≠ 0x3#4) (h4 : op ≠ 0x4#4) : buildR91 op a b c d s = Built.reject .illegalOp s := by
  unfold buildR91
  split
  · exact absurd (BitVec.eq_of_toNat_eq ‹_›) h1
  · exact absurd (BitVec.eq_of_toNat_eq ‹_›) h2
  · exact absurd (BitVec.eq_of_toNat_eq ‹_›) h3
  · exact absurd (BitVec.eq_of_toNat_eq ‹_›) h4
  · rfl

/-- Accept in IDLE (40_sequencer.md R90): the arms of `exec` launch what R91's one function builds. -/
theorem exec_req_idle {s : State} (w : ReqWord) (h : s.phase = .idle) :
    exec (decode (.req w)) s = .next (launch (fieldOpcode w) (fieldA w) (fieldB w) (fieldC w) (fieldD w)
      (buildR91 (fieldOpcode w) (fieldA w) (fieldB w) (fieldC w) (fieldD w) s) s) := by
  simp only [decode, decodeReq]
  split
  · rename_i h1
    rw [h1]
    exact accept_idle h
  split
  · rename_i h2
    rw [h2]
    exact accept_idle h
  split
  · rename_i h3
    rw [h3]
    exact accept_idle h
  split
  · rename_i h4
    rw [h4]
    exact accept_idle h
  · rw [buildR91_reserved _ _ _ _ _ ‹_› ‹_› ‹_› ‹_›]
    exact accept_idle h

/-- The GT handshake touches `GT`, its port and the trace alone (44_gamma.md R150). -/
theorem takeGt_frame {s u : State} (h : takeGt s = .next u) :
    ∃ gt gtQ trace, u = { s with gt := gt, gtQ := gtQ, trace := trace } := by
  obtain ⟨-, rfl⟩ | ⟨w, rest, -, hexec⟩ := takeGt_cases h
  · exact ⟨_, _, _, rfl⟩
  · obtain ⟨-, rfl⟩ | ⟨-, rfl⟩ := gtWrite_cases hexec
    · exact ⟨_, _, _, rfl⟩
    · exact ⟨_, _, _, rfl⟩

theorem takeGt_phase {s u : State} (h : takeGt s = .next u) : u.phase = s.phase := by
  obtain ⟨gt, gtQ, trace, rfl⟩ := takeGt_frame h
  rfl

/-- The outstanding action is answered well (40_sequencer.md R96, R98, R99): the counterpart of `present`. -/
def actionDone (act : Action) (s : State) : State :=
  match act with
  | .hwReset => resetDone s
  | .write cmd params => channelOk cmd params s
  | .wait ms => waitDone ms s

/-- The transitions of the block: what one step of `s` can leave. -/
inductive StepEffect (s : State) : State → Prop
  /-- Block reset (70_reset_and_hazards.md R190). -/
  | blockReset (reset : s.inputs.blockReset = true) : StepEffect s (blockReset (beginCycle s))
  /-- IDLE with no request presented: at most a GT word transfers (30_encoding.md R83). -/
  | idles {u : State} (noReset : s.inputs.blockReset = false) (idle : s.phase = .idle)
      (taken : takeGt (beginCycle s) = .next u) : StepEffect s u
  /-- IDLE with a request presented, accepted after the GT handshake (40_sequencer.md R90). -/
  | accepts {u : State} {w : ReqWord} {rest : List ReqWord} (noReset : s.inputs.blockReset = false)
      (idle : s.phase = .idle) (taken : takeGt (beginCycle s) = .next u) (presented : u.reqQ = w :: rest) :
      StepEffect s (launch (fieldOpcode w) (fieldA w) (fieldB w) (fieldC w) (fieldD w)
        (buildR91 (fieldOpcode w) (fieldA w) (fieldB w) (fieldC w) (fieldD w) { u with reqQ := rest })
        { u with reqQ := rest })
  /-- ISSUE with an action left (40_sequencer.md R93). -/
  | presents {act : Action} (noReset : s.inputs.blockReset = false) (issue : s.phase = .issue)
      (cur : s.current = some act) : StepEffect s (present act (beginCycle s))
  /-- ISSUE at the program's end (40_sequencer.md R92). -/
  | completes (noReset : s.inputs.blockReset = false) (issue : s.phase = .issue)
      (atEnd : s.position = s.prog.length) : StepEffect s (complete s.endCode (beginCycle s))
  /-- AWAIT, and the outstanding action's agent answers (40_sequencer.md R96, R98, R99). -/
  | advances {act : Action} (noReset : s.inputs.blockReset = false) (await : s.phase = .await)
      (cur : s.current = some act) : StepEffect s (actionDone act (beginCycle s))
  /-- AWAIT, and the channel answers `io_error` (40_sequencer.md R97). -/
  | fails {cmd : Byte} {params : List Byte} (noReset : s.inputs.blockReset = false) (await : s.phase = .await)
      (cur : s.current = some (.write cmd params)) : StepEffect s (channelErr cmd params (beginCycle s))
  /-- AWAIT with no answer: at most `WAIT_CTR` falls (40_sequencer.md R94, R99, R103). -/
  | waits {act : Action} {n : Nat} (noReset : s.inputs.blockReset = false) (await : s.phase = .await)
      (cur : s.current = some act) (le : n ≤ s.waitCtr) : StepEffect s { beginCycle s with waitCtr := n }

/-- A cycle in IDLE is the GT handshake, and then an accept if a request is presented. -/
theorem stepEffect_of_idleStep {s t : State} (noReset : s.inputs.blockReset = false) (idle : s.phase = .idle)
    (h : idleStep (beginCycle s) = .next t) : StepEffect s t := by
  obtain ⟨u, taken, hreq⟩ := idleStep_cases h
  have hidle : u.phase = .idle := (takeGt_phase taken).trans idle
  obtain ⟨-, rfl⟩ | ⟨w, rest, presented, hexec⟩ := takeReq_cases hreq
  · exact .idles noReset idle taken
  · cases (exec_req_idle (s := { u with reqQ := rest }) w hidle).symm.trans hexec
    exact .accepts noReset idle taken presented

/-- A cycle in AWAIT is an answer of the outstanding action's agent, or a wait. -/
theorem stepEffect_of_awaitStep {s t : State} (noReset : s.inputs.blockReset = false) (await : s.phase = .await)
    (h : awaitStep s.inputs (beginCycle s) = .next t) : StepEffect s t := by
  obtain ⟨cmd, params, cur, hwrite⟩ | ⟨cur, hreset⟩ | ⟨ms, cur, hwait⟩ := awaitStep_cases h
  · obtain ⟨-, -, rfl⟩ | ⟨-, -, rfl⟩ | ⟨-, rfl⟩ := hwrite
    · exact .advances noReset await cur
    · exact .fails noReset await cur
    · exact .waits noReset await cur le_rfl
  · obtain ⟨-, rfl⟩ | ⟨-, rfl⟩ := hreset
    · exact .advances noReset await cur
    · exact .waits noReset await cur le_rfl
  · obtain ⟨-, -, rfl⟩ | ⟨-, -, rfl⟩ | ⟨-, rfl⟩ := hwait
    · exact .advances noReset await cur
    · exact .waits noReset await cur le_rfl
    · exact .waits noReset await cur (Nat.sub_le _ _)

/-- Every step is one of the transitions. -/
theorem stepEffect_of_step {s t : State} (h : step s = .next t) : StepEffect s t := by
  obtain ⟨reset, rfl⟩ | ⟨noReset, idle, h⟩ | ⟨noReset, issue, h⟩ | ⟨noReset, await, h⟩ := step_cases h
  · exact .blockReset reset
  · exact stepEffect_of_idleStep noReset idle h
  · obtain ⟨act, cur, rfl⟩ | ⟨-, atEnd, rfl⟩ := issueStep_cases h
    · exact .presents noReset issue cur
    · exact .completes noReset issue atEnd
  · exact stepEffect_of_awaitStep noReset await h

/-! What presenting an action and its answer do, one rule per field that an invariant reads. -/

@[simp] theorem present_phase (act : Action) (s : State) : (present act s).phase = .await := by cases act <;> rfl
@[simp] theorem present_prog (act : Action) (s : State) : (present act s).prog = s.prog := by cases act <;> rfl
@[simp] theorem present_position (act : Action) (s : State) : (present act s).position = s.position := by
  cases act <;> rfl
@[simp] theorem present_current (act : Action) (s : State) : (present act s).current = s.current := by
  cases act <;> rfl
@[simp] theorem present_done (act : Action) (s : State) : (present act s).done = s.done := by cases act <;> rfl

@[simp] theorem actionDone_phase (act : Action) (s : State) : (actionDone act s).phase = .issue := by
  cases act <;> rfl
@[simp] theorem actionDone_prog (act : Action) (s : State) : (actionDone act s).prog = s.prog := by
  cases act <;> rfl
@[simp] theorem actionDone_position (act : Action) (s : State) :
    (actionDone act s).position = (advance s).position := by cases act <;> rfl
@[simp] theorem actionDone_wrCount (act : Action) (s : State) : (actionDone act s).wrCount = s.wrCount := by
  cases act <;> rfl
@[simp] theorem actionDone_lastCmd (act : Action) (s : State) : (actionDone act s).lastCmd = s.lastCmd := by
  cases act <;> rfl
@[simp] theorem actionDone_done (act : Action) (s : State) : (actionDone act s).done = s.done := by
  cases act <;> rfl
@[simp] theorem actionDone_trace (act : Action) (s : State) :
    (actionDone act s).trace = s.trace ++ [okEvent act] := by cases act <;> rfl

/-- The block is busy exactly outside IDLE (10_state.md R26). -/
theorem busy_iff {s : State} : s.busy = true ↔ s.phase ≠ .idle := by simp [State.busy]

/-- What the operation in flight has from accept to its completion: the latches, its program and end code, `GT`
(20_memory.md R58), and `STATUS.CODE` as it was (10_state.md R27). -/
structure OperationKept (s t : State) : Prop where
  cfg : t.cfg = s.cfg
  latches : t.op = s.op ∧ t.opa = s.opa ∧ t.opb = s.opb ∧ t.opc = s.opc ∧ t.opd = s.opd
  prog : t.prog = s.prog
  endCode : t.endCode = s.endCode
  code : t.code = s.code
  gt : t.gt = s.gt

theorem operationKept_beginCycle_waitCtr (n : Nat) (s : State) :
    OperationKept s { beginCycle s with waitCtr := n } :=
  ⟨rfl, ⟨rfl, rfl, rfl, rfl, rfl⟩, rfl, rfl, rfl, rfl⟩

theorem operationKept_present (act : Action) (s : State) : OperationKept s (present act (beginCycle s)) := by
  cases act <;> exact ⟨rfl, ⟨rfl, rfl, rfl, rfl, rfl⟩, rfl, rfl, rfl, rfl⟩

theorem operationKept_actionDone (act : Action) (s : State) :
    OperationKept s (actionDone act (beginCycle s)) := by
  cases act <;> exact ⟨rfl, ⟨rfl, rfl, rfl, rfl, rfl⟩, rfl, rfl, rfl, rfl⟩

end Sys2Proof.Machine
end

section
/-! PROOFS. 10_state.md: the sequencer's invariant, the counts of `STATUS` and the built program are kept by every
step. -/

namespace Sys2Proof.Machine

/-- The sequencer's invariant in IDLE (40_sequencer.md R100, 70_reset_and_hazards.md R190). -/
theorem seqInv_of_idle {s : State} (idle : s.phase = .idle)
    (empty : s.prog = [] ∧ s.seqIdx = 0 ∧ s.seqPast = false ∧ s.chValid = false ∧ s.rstReq = false) :
    SeqInv s where
  progShort := by simp [empty]
  idxInside := by simp [State.position, empty]
  idleEmpty _ := empty
  issueQuiet h := by simp [idle] at h
  awaitOne h := by simp [idle] at h
  channelStable _ _ h := by simp [idle] at h
  waitBounded _ h := by simp [idle] at h
  paramsShort := by simp [empty]

/-- The sequencer's invariant in ISSUE. -/
theorem seqInv_of_issue {s : State} (issue : s.phase = .issue) (fits : ProgramFits s.prog)
    (inside : s.position ≤ s.prog.length) (quiet : s.chValid = false ∧ s.rstReq = false) : SeqInv s where
  progShort := fits.short
  idxInside := inside
  idleEmpty h := by simp [issue] at h
  issueQuiet _ := quiet
  awaitOne h := by simp [issue] at h
  channelStable _ _ h := by simp [issue] at h
  waitBounded _ h := by simp [issue] at h
  paramsShort := fits.paramsShort

theorem SeqInv.fits {s : State} (h : SeqInv s) : ProgramFits s.prog := ⟨h.progShort, h.paramsShort⟩

/-- An action stands at `SEQ_IDX` only before the program's end (10_state.md R23). -/
theorem position_lt_of_current {s : State} {act : Action} (cur : s.current = some act) :
    s.position < s.prog.length := (List.getElem?_eq_some_iff.mp cur).1

/-- An answer moves the position past the outstanding action. -/
theorem actionDone_position_of_current {s : State} {act : Action} (short : s.prog.length ≤ 256)
    (cur : s.current = some act) : (actionDone act (beginCycle s)).position = s.position + 1 := by
  rw [actionDone_position]
  exact position_advance ((position_lt_of_current cur).trans_le short)

/-- The GT handshake keeps the sequencer's invariant. -/
theorem SeqInv.takeGt {s u : State} (hs : SeqInv s) (taken : takeGt (beginCycle s) = .next u) : SeqInv u := by
  obtain ⟨gt, gtQ, trace, rfl⟩ := takeGt_frame taken
  exact ⟨hs.progShort, hs.idxInside, hs.idleEmpty, hs.issueQuiet, hs.awaitOne, hs.channelStable, hs.waitBounded,
    hs.paramsShort⟩

/-- Presenting raises exactly the request of the action's agent (40_sequencer.md R95, R98, R99). -/
theorem SeqInv.present {s : State} {act : Action} (hs : SeqInv s) (issue : s.phase = .issue)
    (cur : s.current = some act) : SeqInv (present act (beginCycle s)) := by
  obtain ⟨hch, hrst⟩ := hs.issueQuiet issue
  have cur' : (Machine.present act (beginCycle s)).current = some act := by simpa using cur
  refine ⟨by simpa using hs.progShort, by simpa using hs.idxInside, by simp, by simp, ?_, ?_, ?_,
    by simpa using hs.paramsShort⟩
  · intro _
    refine ⟨act, cur', ?_⟩
    cases act
    · exact ⟨hch, rfl⟩
    · exact ⟨rfl, hrst⟩
    · exact ⟨hch, hrst⟩
  · intro cmd params _ h
    obtain rfl : act = .write cmd params := Option.some.inj (cur'.symm.trans h)
    exact ⟨rfl, rfl, rfl⟩
  · intro ms _ h
    obtain rfl : act = .wait ms := Option.some.inj (cur'.symm.trans h)
    exact le_rfl

/-- The request in AWAIT is the one of the outstanding action (10_state.md R31). -/
theorem SeqInv.request_of_current {s : State} {act : Action} (hs : SeqInv s) (await : s.phase = .await)
    (cur : s.current = some act) : s.chValid = act.isWrite ∧ s.rstReq = act.isReset := by
  obtain ⟨act', cur', request⟩ := hs.awaitOne await
  obtain rfl : act' = act := Option.some.inj (cur'.symm.trans cur)
  exact request

/-- An answer lowers the request and moves on by one (40_sequencer.md R96, R98, R99). -/
theorem SeqInv.actionDone {s : State} {act : Action} (hs : SeqInv s) (await : s.phase = .await)
    (cur : s.current = some act) : SeqInv (actionDone act (beginCycle s)) := by
  obtain ⟨hch, hrst⟩ := hs.request_of_current await cur
  refine seqInv_of_issue (actionDone_phase ..) (by simpa using hs.fits) ?_ ?_
  · rw [actionDone_position_of_current hs.progShort cur, actionDone_prog]
    exact position_lt_of_current cur
  · cases act
    · exact ⟨hch, rfl⟩
    · exact ⟨rfl, hrst⟩
    · exact ⟨hch, hrst⟩

/-- Settles O43: each transition ends in a phase whose part of the invariant it establishes. -/
theorem stepKeepsSequencer : Obligations.StepKeepsSequencer := by
  intro s t hs h
  cases stepEffect_of_step h with
  | blockReset => exact seqInv_of_idle rfl ⟨rfl, rfl, rfl, rfl, rfl⟩
  | idles _ _ taken => exact hs.takeGt taken
  | accepts _ idle taken _ =>
    obtain ⟨gt, gtQ, trace, rfl⟩ := takeGt_frame taken
    obtain ⟨-, -, -, hch, hrst⟩ := hs.idleEmpty idle
    exact seqInv_of_issue rfl (buildR91_fits ..) (Nat.zero_le _) ⟨hch, hrst⟩
  | presents _ issue cur => exact hs.present issue cur
  | completes _ issue _ =>
    obtain ⟨hch, hrst⟩ := hs.issueQuiet issue
    exact seqInv_of_idle rfl ⟨rfl, rfl, rfl, hch, hrst⟩
  | advances _ await cur => exact hs.actionDone await cur
  | fails _ await cur =>
    obtain ⟨-, hrst⟩ := hs.request_of_current await cur
    exact seqInv_of_idle rfl ⟨rfl, rfl, rfl, rfl, hrst⟩
  | waits _ _ _ le =>
    exact ⟨hs.progShort, hs.idxInside, hs.idleEmpty, hs.issueQuiet, hs.awaitOne, hs.channelStable,
      fun ms await cur => le.trans (hs.waitBounded ms await cur), hs.paramsShort⟩

/-- The actions up to and including the one at `SEQ_IDX`. -/
theorem take_succ_position {s : State} {act : Action} (cur : s.current = some act) :
    s.prog.take (s.position + 1) = s.prog.take s.position ++ [act] := by
  have h : s.prog[s.position]? = some act := cur
  simp [List.take_add_one, h]

theorem presented_issue {s : State} (issue : s.phase = .issue) : s.presented = s.prog.take s.position := by
  simp only [State.presented, issue]

theorem presented_await {s : State} (await : s.phase = .await) : s.presented = s.prog.take (s.position + 1) := by
  simp only [State.presented, await]

/-- Presenting adds its action to those presented. -/
theorem presented_present {s : State} {act : Action} (issue : s.phase = .issue) (cur : s.current = some act) :
    (present act (beginCycle s)).presented = s.presented ++ [act] := by
  rw [presented_await (present_phase ..), presented_issue issue, ← take_succ_position cur]
  simp

/-- An answer presents nothing. -/
theorem presented_actionDone {s : State} {act : Action} (short : s.prog.length ≤ 256) (await : s.phase = .await)
    (cur : s.current = some act) : (actionDone act (beginCycle s)).presented = s.presented := by
  rw [presented_issue (actionDone_phase ..), presented_await await, actionDone_position_of_current short cur]
  simp

/-- Presenting a write counts it and notes its command; presenting anything else changes neither
(10_state.md R28, R29). -/
theorem CountInv.present {s : State} {act : Action} (hs : CountInv s) (issue : s.phase = .issue)
    (cur : s.current = some act) : CountInv (present act (beginCycle s)) := by
  intro _
  obtain ⟨hcount, hlast⟩ := hs (busy_iff.mpr (by simp [issue]))
  rw [presented_present issue cur, writesIn_append, lastWriteCmd_append]
  cases act with
  | hwReset => exact ⟨hcount, hlast⟩
  | write cmd params => exact ⟨countShows_presentWrite (s := beginCycle s) cmd params hcount, rfl⟩
  | wait ms => exact ⟨hcount, hlast⟩

/-- Settles O44: only presenting moves the count, and it moves the actions presented with it. -/
theorem stepKeepsWriteCount : Obligations.StepKeepsWriteCount := by
  intro s t hseq hs h
  cases stepEffect_of_step h with
  | blockReset | completes | fails => exact fun hbusy => nomatch hbusy
  | idles _ idle taken => exact fun hbusy => absurd ((takeGt_phase taken).trans idle) (busy_iff.mp hbusy)
  | accepts => exact fun _ => ⟨fun _ => rfl, rfl⟩
  | presents _ issue cur => exact hs.present issue cur
  | advances _ await cur =>
    intro _
    obtain ⟨hcount, hlast⟩ := hs (busy_iff.mpr (by simp [await]))
    rw [presented_actionDone hseq.progShort await cur, actionDone_lastCmd]
    exact ⟨fun hle => (congrArg BitVec.toNat (actionDone_wrCount ..)).trans (hcount hle), hlast⟩
  | waits => exact hs

/-- While the operation keeps its registers and `GT`, its program stays the built one. -/
theorem BuiltInv.of_kept {s t : State} (hs : BuiltInv s) (busy : s.phase ≠ .idle) (kept : OperationKept s t) :
    BuiltInv t := by
  intro _
  obtain ⟨n, hprog, hend⟩ := hs (busy_iff.mpr busy)
  obtain ⟨hop, hopa, hopb, hopc, hopd⟩ := kept.latches
  have hbuild : buildR91 t.op t.opa t.opb t.opc t.opd { t with draws := n } =
      buildR91 s.op s.opa s.opb s.opc s.opd { s with draws := n } := by
    rw [hop, hopa, hopb, hopc, hopd]
    exact buildR91_congr _ _ _ _ _ kept.cfg kept.gt rfl
  exact ⟨n, kept.prog.trans (hprog.trans (congrArg Built.prog hbuild.symm)),
    kept.endCode.trans (hend.trans (congrArg Built.endCode hbuild.symm))⟩

/-- Accept stores what `Build` gives for the words it latches (40_sequencer.md R90, R91). -/
theorem builtInv_launch (op : U4) (a b c d : U16) (s : State) :
    BuiltInv (launch op a b c d (buildR91 op a b c d s) s) := by
  intro _
  have hbuild : buildR91 op a b c d s =
      buildR91 op a b c d { launch op a b c d (buildR91 op a b c d s) s with draws := s.draws } :=
    buildR91_congr _ _ _ _ _ rfl rfl rfl
  exact ⟨s.draws, congrArg Built.prog hbuild, congrArg Built.endCode hbuild⟩

/-- Settles O46: accept stores what `Build` gives, and until the completion its inputs and its answer are kept. -/
theorem stepKeepsBuiltProgram : Obligations.StepKeepsBuiltProgram := by
  intro s t hs h
  cases stepEffect_of_step h with
  | blockReset | completes | fails => exact fun hbusy => nomatch hbusy
  | idles _ idle taken => exact fun hbusy => absurd ((takeGt_phase taken).trans idle) (busy_iff.mp hbusy)
  | accepts => exact builtInv_launch _ _ _ _ _ _
  | presents _ issue _ => exact hs.of_kept (by simp [issue]) (operationKept_present ..)
  | advances _ await _ => exact hs.of_kept (by simp [await]) (operationKept_actionDone ..)
  | waits _ await _ _ => exact hs.of_kept (by simp [await]) (operationKept_beginCycle_waitCtr ..)

end Sys2Proof.Machine
end

section
/-! PROOFS. 10_state.md: what changes the latches, `STATUS.CODE` and `done`; the constant outputs and the layout of
`STATUS`; the values after reset. -/

namespace Sys2Proof.Machine

/-- Settles O51: among the transitions only accept and block reset write the latches. -/
theorem latchesChangeOnlyAtAccept : Obligations.LatchesChangeOnlyAtAccept := by
  intro s t h
  cases stepEffect_of_step h with
  | blockReset reset => exact .inr (.inl reset)
  | idles _ _ taken =>
    obtain ⟨gt, gtQ, trace, rfl⟩ := takeGt_frame taken
    exact .inl ⟨rfl, rfl, rfl, rfl, rfl⟩
  | accepts _ idle _ _ => exact .inr (.inr ⟨idle, rfl, _, rfl⟩)
  | presents => exact .inl (operationKept_present ..).latches
  | completes | fails => exact .inl ⟨rfl, rfl, rfl, rfl, rfl⟩
  | advances => exact .inl (operationKept_actionDone ..).latches
  | waits => exact .inl (operationKept_beginCycle_waitCtr ..).latches

/-- Settles O52: without block reset only a completion writes `CODE`, at the program's end or after a failed
write. -/
theorem codeChangesOnlyAtCompletion : Obligations.CodeChangesOnlyAtCompletion := by
  intro s t h noReset changed
  cases stepEffect_of_step h with
  | blockReset reset => simp [noReset] at reset
  | idles _ _ taken | accepts _ _ taken _ =>
    obtain ⟨gt, gtQ, trace, rfl⟩ := takeGt_frame taken
    exact absurd rfl changed
  | presents => exact absurd (operationKept_present ..).code changed
  | completes _ issue _ => exact ⟨busy_iff.mpr (by simp [issue]), rfl, rfl, _, rfl⟩
  | advances => exact absurd (operationKept_actionDone ..).code changed
  | fails _ await _ => exact ⟨busy_iff.mpr (by simp [await]), rfl, rfl, _, rfl⟩
  | waits => exact absurd rfl changed

/-- Settles O53: `done` falls at the start of every cycle, and only a completion, which leads to IDLE, raises it. -/
theorem donePulsesAtCompletion : Obligations.DonePulsesAtCompletion := by
  intro s t h
  cases stepEffect_of_step h with
  | blockReset reset => simp [reset]
  | idles _ idle taken | accepts _ idle taken _ =>
    obtain ⟨gt, gtQ, trace, rfl⟩ := takeGt_frame taken
    simp [State.busy, idle]
  | presents | advances => simp [State.busy]
  | completes noReset issue _ => simp [State.busy, noReset, issue]
  | fails noReset await _ => simp [State.busy, noReset, await]
  | waits _ await _ _ => simp [State.busy, await]

/-- The constant outputs come from the geometry of R7 (10_state.md R35). -/
theorem constantOutputs_eq (s : State) :
    s.cfgWidth = 240 ∧ s.cfgHeight = 320 ∧ s.cfgBusWidth = 9 ∧ s.cfgRegWidth = 8 ∧
      s.cfgTxbufSize = s.conf.txbufSize := by
  obtain ⟨hwidth, hheight, hbus, hreg⟩ := s.cfg.geometry
  exact ⟨hwidth, hheight, hbus, hreg, rfl⟩

/-- No transition writes the configuration. -/
theorem step_cfg {s t : State} (h : step s = .next t) : t.cfg = s.cfg := by
  cases stepEffect_of_step h with
  | idles _ _ taken | accepts _ _ taken _ =>
    obtain ⟨gt, gtQ, trace, rfl⟩ := takeGt_frame taken
    rfl
  | presents => exact (operationKept_present ..).cfg
  | advances => exact (operationKept_actionDone ..).cfg
  | blockReset | completes | fails | waits => rfl

/-- Settles O41: legality fixes the geometry, and no transition writes the configuration. -/
theorem constantOutputs : Obligations.ConstantOutputs :=
  fun s => ⟨constantOutputs_eq s, fun _ => step_cfg⟩

/-- More events take more steps of the armed state (10_state.md R33). -/
@[simp] theorem armedTrace_append (cmdRamwr : Byte) (trace events : List Event) :
    armedTrace cmdRamwr (trace ++ events) = events.foldl (armStep cmdRamwr) (armedTrace cmdRamwr trace) := by
  simp [armedTrace]

/-- R38's table: with every register at its reset value and a trace that ends disarmed, the configuration, `GT`, the
model's own fields and the outside may be anything. -/
theorem hasResetValues_registers {cfg : LegalCfg} {trace : List Event} (gt : List Host.Cell) (draws : Nat)
    (abandoned : List (Option Action)) (reqQ : List ReqWord) (gtQ : List GtWord) (env : List Inputs)
    (disarmed : armedTrace cfg.val.cmdRamwr trace = false) :
    HasResetValues { State.reset with
      cfg := cfg, gt := gt, draws := draws, trace := trace, abandoned := abandoned, reqQ := reqQ, gtQ := gtQ
      env := env } where
  phase := rfl
  op := rfl
  opa := rfl
  opb := rfl
  opc := rfl
  opd := rfl
  seqIdx := rfl
  prog := rfl
  endCode := rfl
  status := by simp [State.status, State.busy, State.reset, Code.bits]
  done := rfl
  waitCtr := rfl
  chValid := rfl
  rstReq := rfl
  constants := constantOutputs_eq _
  armed := disarmed

theorem hasResetValues_reset : HasResetValues State.reset := hasResetValues_registers _ _ _ _ _ _ rfl

/-- Block reset's own event ends memory-write mode (10_state.md R33). -/
theorem hasResetValues_blockReset (s : State) : HasResetValues (blockReset s) :=
  hasResetValues_registers _ _ _ _ _ _ (armedTrace_append ..)

/-- Settles O36: the reset state and what block reset leaves differ only outside R38's table. -/
theorem resetStateValues : Obligations.ResetStateValues :=
  ⟨hasResetValues_reset, fun _ => rfl, fun _ reset => ⟨_, step_blockReset reset, hasResetValues_blockReset _⟩⟩

/-- Settles O48: right after reset no operation is in flight, `GT` is empty, and no block reset is recorded. -/
theorem resetMeetsInvariants : Obligations.ResetMeetsInvariants :=
  ⟨rfl, seqInv_of_idle rfl ⟨rfl, rfl, rfl, rfl, rfl⟩, (fun busy => nomatch busy), (fun busy => nomatch busy),
    (fun busy => nomatch busy), rfl⟩

/-- The fields of `STATUS` as R26 concatenates them, bit by bit. -/
theorem status_getLsbD (s : State) (i : Nat) :
    s.status.getLsbD i =
      if i < 3 then s.code.bits.getLsbD i
      else if i < 4 then s.busy
      else if i < 8 then false
      else if i < 16 then s.wrCount.getLsbD (i - 8)
      else if i < 24 then s.lastCmd.getLsbD (i - 16)
      else false := by
  unfold State.status
  grind

/-- Each field of `STATUS` reads back what R26 puts there. -/
theorem status_fields (s : State) :
    s.status.extractLsb' 0 3 = s.code.bits ∧ s.status.extractLsb' 4 4 = 0 ∧
      s.status.extractLsb' 8 8 = s.wrCount ∧ s.status.extractLsb' 16 8 = s.lastCmd ∧
      s.status.extractLsb' 24 8 = 0 := by
  refine ⟨?_, ?_, ?_, ?_, ?_⟩ <;>
  · apply BitVec.eq_of_getLsbD_eq
    intro i hi
    rw [BitVec.getLsbD_extractLsb', status_getLsbD]
    grind

/-- The codes of 60_exceptions.md R170 are pairwise distinct. -/
theorem Code.bits_inj {c c' : Code} : c.bits = c'.bits ↔ c = c' := by
  cases c <;> cases c' <;> decide

/-- Settles O40, from the fields read back and the distinct codes. -/
theorem statusWordLayout : Obligations.StatusWordLayout := by
  intro s
  obtain ⟨hcode, hlow, hcount, hlast, hhigh⟩ := status_fields s
  have hbusy : s.status.getLsbD 3 = true ↔ s.phase ≠ .idle := by
    rw [status_getLsbD, ← busy_iff]
    rfl
  exact ⟨hcode, hbusy, hlow, hcount, hlast, hhigh, Code.bits_inj (c' := .ok), Code.bits_inj (c' := .hwError),
    Code.bits_inj (c' := .unsupportedRotation), Code.bits_inj (c' := .invalidTable),
    Code.bits_inj (c' := .illegalOp)⟩

end Sys2Proof.Machine
end

section
/-! PROOFS. Waiting (10_state.md R25, 40_sequencer.md R99), the frames of the instructions, and the writes that disarm
memory-write mode. -/

namespace Sys2Proof.Machine

/-- While `WAIT_CTR` is not 0 a cycle of a wait only counts it down (10_state.md R25). -/
theorem awaitStep_wait_counts {inp : Inputs} {s : State} {ms : Nat} (cur : s.current = some (.wait ms))
    (counting : s.waitCtr ≠ 0) : awaitStep inp s = .next { s with waitCtr := s.waitCtr - 1 } := by
  simp only [awaitStep, cur, if_neg counting]

/-- At zero a late timer holds the wait (40_sequencer.md R99; log 10). -/
theorem awaitStep_wait_late {inp : Inputs} {s : State} {ms : Nat} (cur : s.current = some (.wait ms))
    (zero : s.waitCtr = 0) (late : inp.timerLate = true) : awaitStep inp s = .next s := by
  simp only [awaitStep, cur, if_pos zero, late, if_true]

/-- At zero the wait ends otherwise (40_sequencer.md R99). -/
theorem awaitStep_wait_ends {inp : Inputs} {s : State} {ms : Nat} (cur : s.current = some (.wait ms))
    (zero : s.waitCtr = 0) (onTime : inp.timerLate = false) : awaitStep inp s = .next (waitDone ms s) := by
  simp only [awaitStep, cur, if_pos zero, onTime, Bool.false_eq_true, if_false]

/-- The end of a wait below index 255 (40_sequencer.md R99). -/
theorem waitDone_of_ne {s : State} (ms : Nat) (h : s.seqIdx ≠ 255) :
    waitDone ms s = { s with trace := s.trace ++ [.wait ms], seqIdx := s.seqIdx + 1, phase := .issue } := by
  simp only [waitDone, record, advance, advanceIdx_of_ne _ _ h]

/-- The end of a wait that is the last of 256 actions (log 24). -/
theorem waitDone_full {s : State} (ms : Nat) (h : s.seqIdx = 255) :
    waitDone ms s = { s with
      trace := s.trace ++ [.wait ms], seqIdx := Config.freeByte s.draws, seqPast := true, draws := s.draws + 1,
      phase := .issue } := by
  simp only [waitDone, record, advance, h, advanceIdx_full]

/-- Settles O32, clause by clause: counting, a late timer, the end of the wait, and its end past index 255. -/
theorem waitCountsDownThenEnds : Obligations.WaitCountsDownThenEnds := by
  intro s ms await noReset cur
  rw [step_await noReset await]
  have cur' : (beginCycle s).current = some (.wait ms) := cur
  refine ⟨fun counting => awaitStep_wait_counts cur' counting, fun zero late => awaitStep_wait_late cur' zero late,
    fun zero onTime below => ?_, fun zero onTime full => ⟨Config.freeByte s.draws, ?_⟩⟩
  · rw [awaitStep_wait_ends cur' zero onTime, waitDone_of_ne (s := beginCycle s) ms below]
    rfl
  · rw [awaitStep_wait_ends cur' zero onTime, waitDone_full (s := beginCycle s) ms full]
    rfl

/-- A cycle brings block reset only if the schedule lists one. -/
theorem inputs_noReset {s : State} (h : ∀ inp ∈ s.env, inp.blockReset = false) :
    s.inputs.blockReset = false := by
  cases henv : s.env with
  | nil => simp [State.inputs, henv, Inputs.quiet]
  | cons inp rest => simpa [State.inputs, henv] using h inp (by simp [henv])

/-- Settles O38, by induction on the number of steps: each one counts `WAIT_CTR` down and leaves the same wait. -/
theorem waitIsNeverShortened : Obligations.WaitIsNeverShortened := by
  intro s ms n await cur le noReset
  induction n generalizing s with
  | zero => exact ⟨s, rfl, await, cur, rfl, rfl, rfl, rfl⟩
  | succ n ih =>
    have hstep : step s = .next { beginCycle s with waitCtr := s.waitCtr - 1 } := by
      rw [step_await (inputs_noReset noReset) await]
      exact awaitStep_wait_counts cur (by simp; omega)
    obtain ⟨t, hrun, hphase, hcur, hctr, hrest⟩ := ih { beginCycle s with waitCtr := s.waitCtr - 1 } await cur
      (Nat.le_sub_of_add_le le) fun inp hmem => noReset inp (List.mem_of_mem_tail hmem)
    refine ⟨t, ?_, hphase, hcur, ?_, hrest⟩
    · have hcore : Sys2Proof.core.step s = .next { beginCycle s with waitCtr := s.waitCtr - 1 } := hstep
      simp only [Host.Core.run, hcore, hrun]
    · rw [hctr, Nat.sub_sub, Nat.add_comm]

/-- What a request does, when it answers a next state: it waits while the block is busy, and in IDLE launches a
program; only a SETGAM's builder takes free draws (20_memory.md R53). -/
theorem exec_request_cases {i : Instr} {s t : State} (request : ∀ addr data, i ≠ .gtwr addr data)
    (h : exec i s = .next t) :
    t = s ∨ ∃ op a b c d built, t = launch op a b c d built s ∧
      ((∀ len b c d, i ≠ .setgam len b c d) → built.draws = s.draws) := by
  cases i with
  | gtwr addr data => exact absurd rfl (request addr data)
  | setgam len b c d =>
    obtain ⟨-, rfl⟩ | ⟨-, rfl⟩ := accept_cases h
    · exact .inr ⟨_, _, _, _, _, _, rfl, fun other => absurd rfl (other len b c d)⟩
    · exact .inl rfl
  | setori rot b c d =>
    obtain ⟨-, rfl⟩ | ⟨-, rfl⟩ := accept_cases h
    · refine .inr ⟨_, _, _, _, _, _, rfl, fun _ => ?_⟩
      unfold oriBuild
      split <;> rfl
    · exact .inl rfl
  | init | setwin | rsv =>
    obtain ⟨-, rfl⟩ | ⟨-, rfl⟩ := accept_cases h
    · exact .inr ⟨_, _, _, _, _, _, rfl, fun _ => rfl⟩
    · exact .inl rfl

/-- Settles O21: launching writes none of these fields. -/
theorem requestFrame : Obligations.RequestFrame := by
  intro i s t request h
  obtain rfl | ⟨op, a, b, c, d, built, rfl, hdraws⟩ := exec_request_cases request h
  · simp
  · exact ⟨by simp, fun _ => rfl, hdraws⟩

/-- Settles O22: a GT write is one store and one event. -/
theorem gtwrFrame : Obligations.GtwrFrame := by
  intro addr data s t h
  obtain ⟨-, rfl⟩ | ⟨-, rfl⟩ := gtWrite_cases h
  · refine ⟨rfl, fun k other => ?_⟩
    rw [record_gt, Memory.read_store, if_neg other]
  · exact ⟨rfl, fun _ _ => rfl⟩

/-- Every action is a write with parameters: none of them can be the memory write that arms (10_state.md R33). -/
def WritesWithParams (prog : List Action) : Prop :=
  ∀ act ∈ prog, ∃ cmd params, act = .write cmd params ∧ params ≠ []

/-- A write with parameters disarms, however it is answered (10_state.md R33). -/
theorem armedTrace_write_params (cmdRamwr cmd : Byte) {params : List Byte} (trace : List Event) (result : Answer)
    (h : params ≠ []) : armedTrace cmdRamwr (trace ++ [.write cmd params result]) = false := by
  simp [armStep, h]

theorem curveWrites_writesWithParams (c : Cfg) (gt : List Host.Cell) (is : List Nat) (n : Nat) :
    WritesWithParams (curveWrites c gt is n).1 := by
  induction is generalizing n with
  | nil => exact fun _ hmem => nomatch hmem
  | cons i is ih =>
    intro act hmem
    obtain rfl | hmem := List.mem_cons.mp hmem
    · exact ⟨_, _, rfl, List.ne_nil_of_length_pos (by simp [curveIndices])⟩
    · exact ih _ act hmem

theorem oriBuild_writesWithParams (deg : U16) (bgr : Bool) (s : State) :
    WritesWithParams (oriBuild deg bgr s).prog := by
  obtain ⟨v, h⟩ | h := oriBuild_prog deg bgr s
  · rw [h]
    intro act hmem
    exact ⟨_, [v], List.mem_singleton.mp hmem, by simp⟩
  · rw [h]
    exact fun _ hmem => nomatch hmem

theorem gamBuild_writesWithParams (len : U16) (s : State) : WritesWithParams (gamBuild len s).prog := by
  obtain h | h := gamBuild_prog len s
  · rw [h]
    exact curveWrites_writesWithParams _ _ _ _
  · rw [h]
    exact fun _ hmem => nomatch hmem

/-- A busy block that runs a program of writes with parameters: from its first answer on it is disarmed. -/
structure Disarming (s : State) : Prop where
  prog_ne_nil : s.prog ≠ []
  writes : WritesWithParams s.prog
  disarmed : s.position = 0 ∨ s.armed = false

/-- The outstanding action of such a program is a write with parameters. -/
theorem Disarming.current_eq {s : State} {act : Action} (hs : Disarming s) (cur : s.current = some act) :
    ∃ cmd params, act = .write cmd params ∧ params ≠ [] :=
  hs.writes act (List.mem_of_getElem? cur)

/-- A step keeps such a program in flight, or completes it disarmed. -/
theorem Disarming.step {s t : State} (hs : Disarming s) (busy : s.busy = true) (noReset : s.inputs.blockReset = false)
    (h : step s = .next t) : (t.busy = true ∧ Disarming t) ∨ (t.busy = false ∧ t.armed = false) := by
  cases stepEffect_of_step h with
  | blockReset reset => simp [noReset] at reset
  | idles _ idle | accepts _ idle => exact absurd idle (busy_iff.mp busy)
  | @presents act =>
    refine .inl ⟨by simp [State.busy], ⟨by simpa using hs.prog_ne_nil, by simpa using hs.writes, ?_⟩⟩
    rw [present_position, State.armed, present_trace, State.conf, (operationKept_present act s).cfg]
    exact hs.disarmed
  | completes _ _ atEnd =>
    have hlength := List.length_pos_iff.mpr hs.prog_ne_nil
    obtain hstart | harmed := hs.disarmed
    · omega
    · exact .inr ⟨rfl, (armedTrace_append ..).trans harmed⟩
  | advances _ await cur =>
    obtain ⟨cmd, params, rfl, hparams⟩ := hs.current_eq cur
    refine .inl ⟨rfl, hs.prog_ne_nil, hs.writes, .inr ?_⟩
    rw [State.armed, actionDone_trace]
    exact armedTrace_write_params _ _ _ _ hparams
  | fails _ _ cur =>
    obtain ⟨_, _, ⟨⟩, hparams⟩ := hs.current_eq cur
    refine .inr ⟨rfl, ?_⟩
    rw [State.armed, channelErr_trace, armedTrace_append]
    exact armedTrace_write_params _ _ _ _ hparams
  | waits => exact .inl ⟨busy, hs.prog_ne_nil, hs.writes, hs.disarmed⟩

/-- Such a run ends disarmed. -/
theorem OpRun.disarms {s t : State} (hrun : OpRun s t) (hs : Disarming s) : t.armed = false := by
  induction hrun with
  | last busy noReset next idle =>
    obtain ⟨still, -⟩ | ⟨-, harmed⟩ := hs.step busy noReset next
    · simp [idle] at still
    · exact harmed
  | more busy noReset next still _ ih =>
    obtain ⟨-, hu⟩ | ⟨idle, -⟩ := hs.step busy noReset next
    · exact ih hu
    · simp [idle] at still

/-- Settles O59: SETORI and SETGAM send nothing but writes with parameters. -/
theorem otherWritesDisarm : Obligations.OtherWritesDisarm := by
  intro i s u t _ idle hi hexec hsends hrun
  have hwrites : WritesWithParams u.prog ∧ u.position = 0 := by
    obtain ⟨rot, b, c, d, rfl⟩ | ⟨len, b, c, d, rfl⟩ := hi
    · cases (accept_idle idle).symm.trans hexec
      exact ⟨oriBuild_writesWithParams _ _ _, rfl⟩
    · cases (accept_idle idle).symm.trans hexec
      exact ⟨gamBuild_writesWithParams _ _, rfl⟩
  obtain ⟨hwrites, hstart⟩ := hwrites
  exact hrun.disarms ⟨hsends, hwrites, .inl hstart⟩

end Sys2Proof.Machine
end

section
/-! PROOFS. 20_memory.md: `GT` changes only by a port write in IDLE (R52, R58); the trace of the operation in flight
follows its program (R62); what a block reset leaves delivered (R59); the block waits in IDLE (R61), and words wait
while it is busy (R58). -/

namespace Sys2Proof.Machine

/-- The GT handshake stores one entry, or nothing. -/
theorem takeGt_gt {s u : State} (h : takeGt s = .next u) :
    u.gt = s.gt ∨ ∃ i v, u.gt = Memory.store s.conf.gtDepth s.gt i v := by
  obtain ⟨-, rfl⟩ | ⟨w, rest, -, hexec⟩ := takeGt_cases h
  · exact .inl rfl
  · obtain ⟨-, rfl⟩ | ⟨-, rfl⟩ := gtWrite_cases hexec
    · exact .inr ⟨_, _, rfl⟩
    · exact .inl rfl

/-- `GT` changes only in IDLE, and there only by one store (20_memory.md R52, R58). -/
theorem step_gt {s t : State} (h : step s = .next t) :
    t.gt = s.gt ∨ (s.phase = .idle ∧ ∃ i v, t.gt = Memory.store s.conf.gtDepth s.gt i v) := by
  cases stepEffect_of_step h with
  | blockReset | completes | fails | waits => exact .inl rfl
  | idles _ idle taken | accepts _ idle taken _ => exact (takeGt_gt taken).imp_right fun stored => ⟨idle, stored⟩
  | presents => exact .inl (operationKept_present ..).gt
  | advances => exact .inl (operationKept_actionDone ..).gt

/-- Settles O42: a store keeps the canonical form, and `GT_DEPTH` never changes. -/
theorem stepKeepsGtCanonical : Obligations.StepKeepsGtCanonical := by
  intro s t canonical h
  rw [GtCanonical, State.conf, step_cfg h]
  obtain kept | ⟨-, i, v, stored⟩ := step_gt h
  · rw [kept]
    exact canonical
  · rw [stored]
    exact Memory.wf_store _ _ _ _ canonical

/-- Settles O50: outside IDLE there is no store. -/
theorem gtFrozenWhileBusy : Obligations.GtFrozenWhileBusy := by
  intro s t busy h k
  obtain kept | ⟨idle, -⟩ := step_gt h
  · rw [kept]
  · exact absurd idle (busy_iff.mp busy)

/-- The trace is `start`, then the events of the actions done, in program order (20_memory.md R62). -/
def TraceFollows (start : List Event) (s : State) : Prop :=
  s.trace = start ++ okEvents (s.prog.take s.position)

theorem TraceFollows.present {start : List Event} {s : State} (hs : TraceFollows start s) (act : Action) :
    TraceFollows start (present act (beginCycle s)) := by
  simpa [TraceFollows] using hs

/-- An answer records the event of the action it moves past (40_sequencer.md R96, R98, R99). -/
theorem TraceFollows.actionDone {start : List Event} {s : State} {act : Action} (hs : TraceFollows start s)
    (short : s.prog.length ≤ 256) (cur : s.current = some act) :
    TraceFollows start (actionDone act (beginCycle s)) := by
  have htrace : s.trace = start ++ okEvents (s.prog.take s.position) := hs
  rw [TraceFollows, actionDone_position_of_current short cur, actionDone_prog, actionDone_trace, beginCycle_prog,
    beginCycle_trace, okEvents_take_succ cur, htrace, List.append_assoc]

/-- While the operation keeps its latches, a step that continues the trace keeps its order. -/
theorem TraceInv.of_kept {s t : State} (hs : TraceInv s) (busy : s.phase ≠ .idle) (kept : OperationKept s t)
    (follows : ∀ start, TraceFollows start s → TraceFollows start t) : TraceInv t := by
  intro _
  obtain ⟨before, htrace⟩ := hs (busy_iff.mpr busy)
  obtain ⟨hop, hopa, hopb, hopc, hopd⟩ := kept.latches
  have hfollows := follows (before ++ [.accept s.op s.opa s.opb s.opc s.opd]) (by simpa [TraceFollows] using htrace)
  refine ⟨before, ?_⟩
  rw [hop, hopa, hopb, hopc, hopd]
  simpa [TraceFollows] using hfollows

/-- Settles O45: accept starts the operation's trace, and until the completion only an answer continues it. -/
theorem stepKeepsProgramOrder : Obligations.StepKeepsProgramOrder := by
  intro s t hseq hs h
  cases stepEffect_of_step h with
  | blockReset | completes | fails => exact fun hbusy => nomatch hbusy
  | idles _ idle taken => exact fun hbusy => absurd ((takeGt_phase taken).trans idle) (busy_iff.mp hbusy)
  | accepts => exact fun _ => ⟨_, rfl⟩
  | presents _ issue _ =>
    exact hs.of_kept (by simp [issue]) (operationKept_present ..) fun _ follows => follows.present _
  | advances _ await cur =>
    exact hs.of_kept (by simp [await]) (operationKept_actionDone ..) fun _ follows =>
      follows.actionDone hseq.progShort cur
  | waits => exact hs

/-- Block reset settles the outstanding action: what may have reached the controller is what may have before
(70_reset_and_hazards.md R191). -/
theorem mayHaveReached_blockReset {s : State} (hs : AbandonedInv s) (bytes : List Byte) :
    (blockReset s).mayHaveReached bytes ↔ s.mayHaveReached bytes := by
  have hnone : (blockReset s).mayHaveReached bytes ↔
      traceMayHaveSent (s.trace ++ [.blockReset]) (s.abandoned ++ [s.outstanding]) bytes := by
    constructor
    · rintro ⟨settled, inFlight, rfl, hsettled, hinFlight⟩
      obtain rfl : inFlight = [] := hinFlight
      simpa using hsettled
    · intro h
      exact ⟨bytes, [], by simp, h, rfl⟩
  exact hnone.trans (traceMayHaveSent_blockReset hs)

/-- While a write is outstanding any prefix of it may have been sent after what the trace settles (20_memory.md
R59). -/
theorem mayHaveReached_of_outstanding {s : State} {cmd : Byte} {params sent settled : List Byte}
    (await : s.phase = .await) (cur : s.current = some (.write cmd params)) (hsent : sent <+: cmd :: params)
    (hsettled : traceMayHaveSent s.trace s.abandoned settled) : s.mayHaveReached (settled ++ sent) := by
  refine ⟨settled, sent, rfl, hsettled, ?_⟩
  rw [outstanding_await await, cur]
  exact hsent

/-- Settles O35: a cycle's start sends nothing, and block reset keeps what may have been sent. -/
theorem blockResetAbandonsOutstandingWrite : Obligations.BlockResetAbandonsOutstandingWrite := by
  intro s hs reset
  have hreached : ∀ bytes, (blockReset (beginCycle s)).mayHaveReached bytes ↔ s.mayHaveReached bytes :=
    mayHaveReached_blockReset (s := beginCycle s) hs
  refine ⟨_, step_blockReset reset, rfl, rfl, hreached, ?_⟩
  intro cmd params sent settled await cur hsent hsettled
  exact (hreached _).mpr (mayHaveReached_of_outstanding await cur hsent hsettled)

/-- Settles O8: no handshake takes place, so the step is the start of a cycle alone. -/
theorem idleBlockWaits : Obligations.IdleBlockWaits := by
  intro s idle noReset hgtQ hreqQ
  have hstep : step s = .next (beginCycle s) := by
    rw [step_idle noReset idle, idleStep_of_takeGt (takeGt_nil hgtQ), takeReq_nil hreqQ]
  have hbegin : beginCycle s =
      { s with done := false, reqQ := (beginCycle s).reqQ, gtQ := (beginCycle s).gtQ, env := s.env.tail } := rfl
  rw [hstep, hbegin, hreqQ, hgtQ]

/-- Settles O19: outside IDLE an instruction waits. -/
theorem busyBlockTakesNoWord : Obligations.BusyBlockTakesNoWord := by
  intro i s busy
  obtain ⟨t, h⟩ := exec_total i s
  obtain ⟨-, rfl⟩ | ⟨idle, -⟩ | ⟨idle, -⟩ := exec_cases h
  · exact h
  · exact absurd idle busy
  · exact absurd idle busy

end Sys2Proof.Machine
end

section
/-! PROOFS. The outcome of any operation (20_memory.md R62; 40_sequencer.md R97, R100): what every state of its run has
in common with the state accept leaves, and the two ways it ends. -/

namespace Sys2Proof.Machine

theorem OperationKept.refl (s : State) : OperationKept s s :=
  ⟨rfl, ⟨rfl, rfl, rfl, rfl, rfl⟩, rfl, rfl, rfl, rfl⟩

theorem OperationKept.trans {s t u : State} (hst : OperationKept s t) (htu : OperationKept t u) :
    OperationKept s u := by
  obtain ⟨hop, hopa, hopb, hopc, hopd⟩ := hst.latches
  obtain ⟨hop', hopa', hopb', hopc', hopd'⟩ := htu.latches
  exact ⟨htu.cfg.trans hst.cfg,
    ⟨hop'.trans hop, hopa'.trans hopa, hopb'.trans hopb, hopc'.trans hopc, hopd'.trans hopd⟩,
    htu.prog.trans hst.prog, htu.endCode.trans hst.endCode, htu.code.trans hst.code, htu.gt.trans hst.gt⟩

/-- `u` is in the operation that `s` has just accepted: it holds what `s` holds, and its trace and counts tell how far
the program has come. -/
structure InOperation (s u : State) : Prop where
  seq : SeqInv u
  count : CountInv u
  kept : OperationKept s u
  follows : TraceFollows s.trace u

/-- The state that accept leaves is at the start of its operation. -/
theorem InOperation.start {s : State} (hseq : SeqInv s) (issue : s.phase = .issue) (first : s.position = 0)
    (hcount : s.wrCount = 0) (hlast : s.lastCmd = 0) : InOperation s s where
  seq := hseq
  count _ := by
    rw [presented_issue issue, first]
    exact ⟨fun _ => congrArg BitVec.toNat hcount, hlast⟩
  kept := .refl s
  follows := by simp [TraceFollows, first, okEvents]

/-- Every action was answered well: the operation reports `END_CODE` (40_sequencer.md R92, R100). -/
structure RanToEnd (s t : State) : Prop where
  trace : t.trace = s.trace ++ okEvents s.prog ++ [.done s.endCode]
  code : t.code = s.endCode
  count : t.countShows (writesIn s.prog)
  lastCmd : t.lastCmd = lastWriteCmd 0 s.prog

/-- Write `k` was answered `io_error`: the operation reports `HW_ERROR` (40_sequencer.md R97). -/
structure FailedAt (s t : State) (k : Nat) (cmd : Byte) (params : List Byte) : Prop where
  write : s.prog[k]? = some (.write cmd params)
  trace : t.trace = s.trace ++ okEvents (s.prog.take k) ++ [.write cmd params .ioError, .done .hwError]
  code : t.code = .hwError
  count : t.countShows (writesIn (s.prog.take k) + 1)
  lastCmd : t.lastCmd = cmd

/-- The operation that `s` accepted is over, in one of its two ways. -/
structure OperationOver (s t : State) : Prop where
  gt : t.gt = s.gt
  latches : t.op = s.op ∧ t.opa = s.opa ∧ t.opb = s.opb ∧ t.opc = s.opc ∧ t.opd = s.opd
  idle : t.phase = .idle
  done : t.done = true
  outcome : RanToEnd s t ∨ ∃ k cmd params, FailedAt s t k cmd params

/-- At the program's end everything has been presented and recorded. -/
theorem InOperation.ranToEnd {s u : State} (hu : InOperation s u) (issue : u.phase = .issue)
    (atEnd : u.position = u.prog.length) : RanToEnd s (complete u.endCode (beginCycle u)) := by
  obtain ⟨hcount, hlast⟩ := hu.count (busy_iff.mpr (by simp [issue]))
  have htrace : u.trace = s.trace ++ okEvents (u.prog.take u.position) := hu.follows
  rw [presented_issue issue, atEnd, List.take_length, hu.kept.prog] at hcount hlast
  rw [atEnd, List.take_length, hu.kept.prog] at htrace
  rw [hu.kept.endCode]
  exact ⟨by simp [htrace], rfl, hcount, hlast⟩

/-- The failed write is the last one presented, and the only action presented whose `ok` event is not recorded. -/
theorem InOperation.failedAt {s u : State} {cmd : Byte} {params : List Byte} (hu : InOperation s u)
    (await : u.phase = .await) (cur : u.current = some (.write cmd params)) :
    FailedAt s (channelErr cmd params (beginCycle u)) u.position cmd params := by
  obtain ⟨hcount, hlast⟩ := hu.count (busy_iff.mpr (by simp [await]))
  have htrace : u.trace = s.trace ++ okEvents (u.prog.take u.position) := hu.follows
  rw [presented_await await, take_succ_position cur, writesIn_append, hu.kept.prog] at hcount
  rw [presented_await await, take_succ_position cur, lastWriteCmd_append] at hlast
  rw [hu.kept.prog] at htrace
  rw [State.current, hu.kept.prog] at cur
  exact ⟨cur, by simp [htrace], rfl, hcount, hlast⟩

/-- A step of the operation goes on with it or ends it. -/
theorem InOperation.step {s u t : State} (hu : InOperation s u) (busy : u.busy = true)
    (noReset : u.inputs.blockReset = false) (h : step u = .next t) :
    (t.busy = true ∧ InOperation s t) ∨ (t.busy = false ∧ OperationOver s t) := by
  have hseq : SeqInv t := stepKeepsSequencer u t hu.seq h
  have hcount : CountInv t := stepKeepsWriteCount u t hu.seq hu.count h
  cases stepEffect_of_step h with
  | blockReset reset => simp [noReset] at reset
  | idles _ idle | accepts _ idle => exact absurd idle (busy_iff.mp busy)
  | presents =>
    exact .inl ⟨busy_iff.mpr (by simp), hseq, hcount, hu.kept.trans (operationKept_present ..), hu.follows.present _⟩
  | completes _ issue atEnd =>
    exact .inr ⟨rfl, hu.kept.gt, hu.kept.latches, rfl, rfl, .inl (hu.ranToEnd issue atEnd)⟩
  | advances _ _ cur =>
    exact .inl ⟨busy_iff.mpr (by simp), hseq, hcount, hu.kept.trans (operationKept_actionDone ..),
      hu.follows.actionDone hu.seq.progShort cur⟩
  | fails _ await cur =>
    exact .inr ⟨rfl, hu.kept.gt, hu.kept.latches, rfl, rfl, .inr ⟨_, _, _, hu.failedAt await cur⟩⟩
  | waits =>
    exact .inl ⟨busy, hseq, hcount, hu.kept.trans (operationKept_beginCycle_waitCtr ..), hu.follows⟩

/-- A run from within the operation ends it. -/
theorem OpRun.operationOver {s u t : State} (hrun : OpRun u t) (hu : InOperation s u) : OperationOver s t := by
  induction hrun with
  | last busy noReset next idle =>
    obtain ⟨still, -⟩ | ⟨-, ended⟩ := hu.step busy noReset next
    · simp [idle] at still
    · exact ended
  | more busy noReset next still _ ih =>
    obtain ⟨-, hu'⟩ | ⟨idle, -⟩ := hu.step busy noReset next
    · exact ih hu'
    · simp [idle] at still

/-- Settles O55: by induction on the run, each state of it is in the operation, and the last step ends it. -/
theorem operationOutcome : Obligations.OperationOutcome := by
  intro s t hseq issue first hcount hlast hrun
  obtain ⟨hgt, ⟨hop, hopa, hopb, hopc, hopd⟩, idle, done, outcome⟩ :=
    hrun.operationOver (.start hseq issue first hcount hlast)
  refine ⟨⟨hgt, hop, hopa, hopb, hopc, hopd, idle, done⟩, ?_⟩
  obtain ⟨htrace, hcode, hshows, hcmd⟩ | ⟨k, cmd, params, hwrite, htrace, hcode, hshows, hcmd⟩ := outcome
  · exact .inl ⟨htrace, hcode, hshows, hcmd⟩
  · exact .inr ⟨k, cmd, params, hwrite, htrace, hcode, hshows, hcmd⟩

end Sys2Proof.Machine
end

section
/-! PROOFS. 30_encoding.md R70, R71, R78, R85: the fields of a word, the instruction its `OPCODE` selects, and that the
decoder and the encoder are inverse to each other. -/

namespace Sys2Proof

/-! A word of a port is its fields side by side (30_encoding.md R70, R78); for `OPCODE` see
`Laws.EncodedOpcode.fieldOpcode_encodeReq`. -/

@[simp] theorem fieldD_encodeReq (op : U4) (a b c d : U16) : fieldD (encodeReq op a b c d) = d :=
  BitVec.extractLsb'_append_eq_right

@[simp] theorem fieldC_encodeReq (op : U4) (a b c d : U16) : fieldC (encodeReq op a b c d) = c :=
  calc fieldC (encodeReq op a b c d)
    _ = (op ++ a ++ b ++ c).extractLsb' 0 16 := BitVec.extractLsb'_append_eq_of_le (by decide)
    _ = c := BitVec.extractLsb'_append_eq_right

@[simp] theorem fieldB_encodeReq (op : U4) (a b c d : U16) : fieldB (encodeReq op a b c d) = b :=
  calc fieldB (encodeReq op a b c d)
    _ = (op ++ a ++ b ++ c).extractLsb' 16 16 := BitVec.extractLsb'_append_eq_of_le (by decide)
    _ = (op ++ a ++ b).extractLsb' 0 16 := BitVec.extractLsb'_append_eq_of_le (by decide)
    _ = b := BitVec.extractLsb'_append_eq_right

@[simp] theorem fieldA_encodeReq (op : U4) (a b c d : U16) : fieldA (encodeReq op a b c d) = a :=
  calc fieldA (encodeReq op a b c d)
    _ = (op ++ a ++ b ++ c).extractLsb' 32 16 := BitVec.extractLsb'_append_eq_of_le (by decide)
    _ = (op ++ a ++ b).extractLsb' 16 16 := BitVec.extractLsb'_append_eq_of_le (by decide)
    _ = (op ++ a).extractLsb' 0 16 := BitVec.extractLsb'_append_eq_of_le (by decide)
    _ = a := BitVec.extractLsb'_append_eq_right

@[simp] theorem fieldAddr_encodeGt (addr : U16) (data : Byte) : fieldAddr (encodeGt addr data) = addr :=
  BitVec.extractLsb'_append_eq_left

@[simp] theorem fieldData_encodeGt (addr : U16) (data : Byte) : fieldData (encodeGt addr data) = data :=
  BitVec.extractLsb'_append_eq_right

/-- The five fields of a request word cover all its bits, the ignored ones too (30_encoding.md R77): from the top, each
continues the bits before it. -/
theorem encodeReq_fields (w : ReqWord) :
    encodeReq (fieldOpcode w) (fieldA w) (fieldB w) (fieldC w) (fieldD w) = w := by
  have hA : fieldOpcode w ++ fieldA w = w.extractLsb' 48 20 :=
    BitVec.extractLsb'_append_extractLsb'_eq_extractLsb' rfl
  have hB : w.extractLsb' 48 20 ++ fieldB w = w.extractLsb' 32 36 :=
    BitVec.extractLsb'_append_extractLsb'_eq_extractLsb' rfl
  have hC : w.extractLsb' 32 36 ++ fieldC w = w.extractLsb' 16 52 :=
    BitVec.extractLsb'_append_extractLsb'_eq_extractLsb' rfl
  have hD : w.extractLsb' 16 52 ++ fieldD w = w.extractLsb' 0 68 :=
    BitVec.extractLsb'_append_extractLsb'_eq_extractLsb' rfl
  rw [encodeReq, hA, hB, hC, hD, BitVec.extractLsb'_eq_self]

/-- The two fields of a GT word cover all its bits. -/
theorem encodeGt_fields (g : GtWord) : encodeGt (fieldAddr g) (fieldData g) = g := by
  have hdata : fieldAddr g ++ fieldData g = g.extractLsb' 0 24 :=
    BitVec.extractLsb'_append_extractLsb'_eq_extractLsb' rfl
  rw [encodeGt, hdata, BitVec.extractLsb'_eq_self]

/-! The instruction that an operation code selects, apart from the word it stands in (30_encoding.md R71, R85). -/

/-- The request with operation code `op` and operand fields `a`, `b`, `c` and `d`. -/
def requestOf (op : U4) (a b c d : U16) : Instr :=
  if op = 0x1#4 then .init a b c d
  else if op = 0x2#4 then .setwin a b c d
  else if op = 0x3#4 then .setori a b c d
  else if op = 0x4#4 then .setgam a b c d
  else .rsv op a b c d

theorem requestOf_init (a b c d : U16) : requestOf 0x1#4 a b c d = .init a b c d := rfl
theorem requestOf_setwin (a b c d : U16) : requestOf 0x2#4 a b c d = .setwin a b c d := rfl
theorem requestOf_setori (a b c d : U16) : requestOf 0x3#4 a b c d = .setori a b c d := rfl
theorem requestOf_setgam (a b c d : U16) : requestOf 0x4#4 a b c d = .setgam a b c d := rfl

/-- The reserved codes are those without a row of their own (30_encoding.md R71). -/
theorem reservedOpcode_iff {op : U4} : reservedOpcode op = true ↔ op ∉ [0x1#4, 0x2#4, 0x3#4, 0x4#4] := by
  simp [reservedOpcode, and_assoc]

theorem requestOf_reserved {op : U4} (a b c d : U16) (reserved : reservedOpcode op = true) :
    requestOf op a b c d = .rsv op a b c d := by
  have hrows := reservedOpcode_iff.mp reserved
  simp only [List.mem_cons, List.not_mem_nil, or_false, not_or] at hrows
  obtain ⟨h1, h2, h3, h4⟩ := hrows
  simp only [requestOf, if_neg h1, if_neg h2, if_neg h3, if_neg h4]

/-- Every operation code is one of the four with a row of their own, or reserved. -/
theorem opcode_cases (op : U4) :
    op = 0x1#4 ∨ op = 0x2#4 ∨ op = 0x3#4 ∨ op = 0x4#4 ∨ reservedOpcode op = true := by
  revert op
  decide

/-- Decoding a request word selects by its `OPCODE`. -/
theorem decode_req (w : ReqWord) :
    decode (.req w) = requestOf (fieldOpcode w) (fieldA w) (fieldB w) (fieldC w) (fieldD w) := rfl

/-- Decoding a request word gives back the fields it was built from. -/
theorem decode_encodeReq (op : U4) (a b c d : U16) : decode (.req (encodeReq op a b c d)) = requestOf op a b c d := by
  simp only [decode_req, Laws.EncodedOpcode.fieldOpcode_encodeReq, fieldA_encodeReq, fieldB_encodeReq,
    fieldC_encodeReq, fieldD_encodeReq]

theorem decode_encodeGt (addr : U16) (data : Byte) : decode (.gt (encodeGt addr data)) = .gtwr addr data := by
  simp only [decode, decodeGt, fieldAddr_encodeGt, fieldData_encodeGt]

/-- Encoding puts the operation code that selects an instruction into its word, and only well-formed instructions are
selected. -/
theorem encode_requestOf (op : U4) (a b c d : U16) :
    encode (requestOf op a b c d) = .req (encodeReq op a b c d) ∧ (requestOf op a b c d).wellFormed = true := by
  obtain rfl | rfl | rfl | rfl | reserved := opcode_cases op
  · exact ⟨rfl, rfl⟩
  · exact ⟨rfl, rfl⟩
  · exact ⟨rfl, rfl⟩
  · exact ⟨rfl, rfl⟩
  · rw [requestOf_reserved a b c d reserved]
    exact ⟨rfl, reserved⟩

/-- Settles O1, constructor by constructor: an instruction's word has its operation code and its operands as fields, and
that code selects the instruction; a reserved code does so because the instruction is well formed. -/
theorem decodeInvertsEncode : Obligations.DecodeInvertsEncode := by
  intro i wellFormed
  cases i with
  | init a b c d => exact decode_encodeReq 0x1#4 a b c d
  | setwin xStart yStart xEnd yEnd => exact decode_encodeReq 0x2#4 xStart yStart xEnd yEnd
  | setori rotation b c d => exact decode_encodeReq 0x3#4 rotation b c d
  | setgam len b c d => exact decode_encodeReq 0x4#4 len b c d
  | rsv opc a b c d => exact (decode_encodeReq opc a b c d).trans (requestOf_reserved a b c d wellFormed)
  | gtwr addr data => exact decode_encodeGt addr data

/-- Settles O2, port by port: the instruction selected by a word's fields is well formed and encodes to those fields,
which cover the word. -/
theorem encodeInvertsDecode : Obligations.EncodeInvertsDecode := by
  intro p
  cases p with
  | req w =>
    obtain ⟨hencode, hwf⟩ := encode_requestOf (fieldOpcode w) (fieldA w) (fieldB w) (fieldC w) (fieldD w)
    rw [encodeReq_fields] at hencode
    exact ⟨hencode, hwf⟩
  | gt g => exact ⟨congrArg PortWord.gt (encodeGt_fields g), rfl⟩

/-- Settles O3, clause by clause: the code a clause names selects the instruction it names. -/
theorem opcodeSelectsInstruction : Obligations.OpcodeSelectsInstruction := by
  have selects {w : ReqWord} {op : U4} (code : fieldOpcode w = op) :
      decode (.req w) = requestOf op (fieldA w) (fieldB w) (fieldC w) (fieldD w) := code ▸ decode_req w
  refine ⟨fun w => ⟨fun code => ?_, fun code => ?_, fun code => ?_, fun code => ?_, fun code => ?_⟩, fun g => rfl⟩
  · exact (selects code).trans (requestOf_init ..)
  · exact (selects code).trans (requestOf_setwin ..)
  · exact (selects code).trans (requestOf_setori ..)
  · exact (selects code).trans (requestOf_setgam ..)
  · exact (decode_req w).trans (requestOf_reserved _ _ _ _ (reservedOpcode_iff.mpr code))

/-- Settles O4, word by word. -/
theorem vectorWordsDecode : Obligations.VectorWordsDecode := by
  unfold Obligations.VectorWordsDecode
  decide

end Sys2Proof
end

section
/-! PROOFS. 30_encoding.md R79: the layout of `ch_params`. -/

namespace Sys2Proof.Machine

/-- The first parameter takes the low byte; the others stand one byte higher than they do without it. -/
theorem packParams_cons_getLsbD (p : Byte) (ps : List Byte) (i : Nat) (h : i < 120) :
    (packParams (p :: ps)).getLsbD i = if i < 8 then p.getLsbD i else (packParams ps).getLsbD (i - 8) := by
  simp only [packParams, BitVec.getLsbD_or, BitVec.getLsbD_shiftLeft, BitVec.getLsbD_setWidth]
  by_cases low : i < 8
  · simp [low, h]
  · simp [low, h, BitVec.getLsbD_of_ge p i (not_lt.mp low)]

/-- Bit `j` of parameter `k` is bit `8k + j` of `ch_params`. -/
theorem packParams_getLsbD (params : List Byte) {k j : Nat} (hk : k < 15) (hj : j < 8) :
    (packParams params).getLsbD (8 * k + j) = (params.getD k 0).getLsbD j := by
  induction params generalizing k with
  | nil => simp [packParams]
  | cons p ps ih =>
    rw [packParams_cons_getLsbD p ps _ (by omega)]
    cases k with
    | zero => simp [hj]
    | succ k =>
      rw [if_neg (by omega), show 8 * (k + 1) + j - 8 = 8 * k + j by omega, ih (by omega), List.getD_cons_succ]

/-- Settles O25, bit by bit. -/
theorem channelParamLayout : Obligations.ChannelParamLayout := by
  intro params _ k hk
  refine BitVec.eq_of_getLsbD_eq fun j hj => ?_
  rw [BitVec.getLsbD_extractLsb', packParams_getLsbD params hk hj]
  simp [hj]

end Sys2Proof.Machine
end

section
/-! PROOFS. 30_encoding.md R83, 40_sequencer.md R90: a step in IDLE executes the words that its two ports present. -/

namespace Sys2Proof.Machine

/-- A presented GT word is executed first, and the request handshake takes place on what it leaves. -/
theorem step_gtWord {s u : State} {g : GtWord} {gs : List GtWord} (idle : s.phase = .idle)
    (noReset : s.inputs.blockReset = false) (hgtQ : (beginCycle s).gtQ = g :: gs)
    (hexec : exec (decode (.gt g)) { beginCycle s with gtQ := gs } = .next u) : step s = takeReq u := by
  rw [step_idle noReset idle, idleStep_of_takeGt ((takeGt_cons hgtQ).trans hexec)]

/-- A GT word leaves the request port as it is. -/
theorem exec_gt_reqQ {s u : State} {g : GtWord} (h : exec (decode (.gt g)) s = .next u) : u.reqQ = s.reqQ := by
  obtain ⟨-, rfl⟩ | ⟨-, rfl⟩ := gtWrite_cases h
  · rfl
  · rfl

/-- Settles O5: the GT handshake transfers nothing, and the request handshake is the execution. -/
theorem stepExecutesRequest : Obligations.StepExecutesRequest := by
  intro s w rest idle noReset hgtQ hreqQ
  rw [step_idle noReset idle, idleStep_of_takeGt (takeGt_nil hgtQ), takeReq_cons hreqQ]

/-- Settles O7: the GT handshake is the execution of its word, and the request handshake that of the request. -/
theorem stepExecutesGtWordFirst : Obligations.StepExecutesGtWordFirst := by
  intro s g gs w ws idle noReset hgtQ hreqQ
  obtain ⟨u, hexec⟩ := exec_total (decode (.gt g)) { beginCycle s with gtQ := gs }
  have hu : u.reqQ = w :: ws := (exec_gt_reqQ hexec).trans hreqQ
  exact ⟨u, hexec, hu, (step_gtWord idle noReset hgtQ hexec).trans (takeReq_cons hu)⟩

/-- Settles O6: the GT handshake is the execution, and it leaves nothing on the request port to transfer. -/
theorem stepExecutesGtWord : Obligations.StepExecutesGtWord := by
  intro s g gs idle noReset hgtQ hreqQ
  obtain ⟨u, hexec⟩ := exec_total (decode (.gt g)) { beginCycle s with gtQ := gs }
  have hu : u.reqQ = [] := (exec_gt_reqQ hexec).trans hreqQ
  rw [step_gtWord idle noReset hgtQ hexec, takeReq_nil hu, hexec]

/-- A request word in its container of nine bytes is that word on the request port (log 21). -/
theorem portWord_req (w : ReqWord) : portWord 72 w.toNat = .ok (.req w) := by
  simp [portWord, w.isLt]

/-- A GT word in three bytes is that word on the GT port. -/
theorem portWord_gt (g : GtWord) : portWord 24 g.toNat = .ok (.gt g) := by
  simp [portWord, g.isLt]

theorem withFetchWord_req (s : State) (w : ReqWord) : s.withFetchWord 72 w.toNat = presentWord (.req w) s := by
  simp only [State.withFetchWord, portWord_req]

theorem withFetchWord_gt (s : State) (g : GtWord) : s.withFetchWord 24 g.toNat = presentWord (.gt g) s := by
  simp only [State.withFetchWord, portWord_gt]

/-- Settles O9: the presented word is alone on its port in a quiet cycle of IDLE, so O5 and O6 apply. -/
theorem fetchWordIsExecuted : Obligations.FetchWordIsExecuted := by
  intro s
  constructor
  · intro w
    have hreqQ : (beginCycle (presentWord (.req w) s)).reqQ = w :: s.reqQ := List.append_nil _
    rw [withFetchWord_req, stepExecutesRequest (presentWord (.req w) s) w s.reqQ rfl rfl rfl hreqQ]
    rfl
  · intro g
    have hgtQ : (beginCycle (presentWord (.gt g) s)).gtQ = g :: s.gtQ := List.append_nil _
    rw [withFetchWord_gt, stepExecutesGtWord (presentWord (.gt g) s) g s.gtQ rfl rfl hgtQ rfl]
    rfl

end Sys2Proof.Machine
end

section
/-! PROOFS. 30_encoding.md R76, R77: what accept leaves of a reserved request, and of the ignored bits of any other. -/

namespace Sys2Proof.Machine

/-- Settles O17: accept launches the empty program. -/
theorem reservedRequestIsAccepted : Obligations.ReservedRequestIsAccepted :=
  fun _ _ _ _ _ _ idle _ => accept_idle idle

/-- What accept leaves in IDLE is the launched operation. -/
theorem accept_launches {op : U4} {a b c d : U16} {built : Built} {s t : State}
    (h : accept op a b c d built s = .next t) (idle : s.phase = .idle) : t = launch op a b c d built s := by
  obtain ⟨-, ht⟩ | ⟨busy, -⟩ := accept_cases h
  · exact ht
  · exact absurd idle busy

/-- Settles O23: the builders of the three forms read none of the ignored bits, and SETORI's reads bit 0 of D alone, so
both requests launch the same program. -/
theorem ignoredBitsOnlyLatch : Obligations.IgnoredBitsOnlyLatch := by
  intro s t
  refine ⟨fun a b c d a' b' c' d' h idle => ?_, fun rot b c d b' c' d' h idle bgr => ?_,
    fun len b c d b' c' d' h idle => ?_⟩
  · rw [accept_launches h idle]
    exact accept_idle idle
  · have hbgr : bgrOf d = bgrOf d' := bgr
    rw [accept_launches h idle, hbgr]
    exact accept_idle idle
  · rw [accept_launches h idle]
    exact accept_idle idle

end Sys2Proof.Machine
end

section
/-! PROOFS. 40_sequencer.md R94, R96 and 30_encoding.md R83: the agents' answers, the matching ones and the others. -/

namespace Sys2Proof.Machine

/-- A write answered `ok` below index 255 (40_sequencer.md R96). -/
theorem channelOk_of_ne {s : State} (cmd : Byte) (params : List Byte) (h : s.seqIdx ≠ 255) :
    channelOk cmd params s = { s with
      trace := s.trace ++ [.write cmd params .ok], chValid := false, seqIdx := s.seqIdx + 1, phase := .issue } := by
  simp only [channelOk, record, advance, advanceIdx_of_ne _ _ h]

/-- The write answered `ok` is the last of 256 actions (log 24). -/
theorem channelOk_full {s : State} (cmd : Byte) (params : List Byte) (h : s.seqIdx = 255) :
    channelOk cmd params s = { s with
      trace := s.trace ++ [.write cmd params .ok], chValid := false, seqIdx := Config.freeByte s.draws,
      seqPast := true, draws := s.draws + 1, phase := .issue } := by
  simp only [channelOk, record, advance, h, advanceIdx_full]

/-- The channel answers the outstanding write with `ok`. -/
theorem awaitStep_channelOk {inp : Inputs} {s : State} {cmd : Byte} {params : List Byte}
    (cur : s.current = some (.write cmd params)) (answered : inp.chDone = true) (ok : inp.chErr = false) :
    awaitStep inp s = .next (channelOk cmd params s) := by
  simp only [awaitStep, cur, answered, ok, if_true, Bool.false_eq_true, if_false]

/-- Settles O29: below index 255 and past it, the answer is `channelOk` on the start of the cycle. -/
theorem channelOkAdvances : Obligations.ChannelOkAdvances := by
  intro s cmd params await noReset cur answered ok
  have cur' : (beginCycle s).current = some (.write cmd params) := cur
  rw [step_await noReset await, awaitStep_channelOk cur' answered ok]
  refine ⟨fun below => ?_, fun full => ⟨Config.freeByte s.draws, ?_⟩⟩
  · rw [channelOk_of_ne (s := beginCycle s) cmd params below]
    rfl
  · rw [channelOk_full (s := beginCycle s) cmd params full]
    rfl

/-- A cycle in AWAIT reads `ch_done` and `ch_err` for an outstanding write only. -/
theorem awaitStep_noWrite {s : State} (noWrite : ¬ ∃ cmd params, s.current = some (.write cmd params)) (inp : Inputs)
    (chDone chErr : Bool) :
    awaitStep { inp with chDone := chDone, chErr := chErr } s = awaitStep inp s := by
  cases hcur : s.current with
  | none => simp only [awaitStep, hcur]
  | some act =>
    cases act with
    | write cmd params => exact absurd ⟨cmd, params, hcur⟩ noWrite
    | hwReset => simp only [awaitStep, hcur]
    | wait ms => simp only [awaitStep, hcur]

/-- A cycle in AWAIT reads `rst_done` for an outstanding reset request only. -/
theorem awaitStep_noReset {s : State} (noRequest : s.current ≠ some .hwReset) (inp : Inputs) (rstDone : Bool) :
    awaitStep { inp with rstDone := rstDone } s = awaitStep inp s := by
  cases hcur : s.current with
  | none => simp only [awaitStep, hcur]
  | some act =>
    cases act with
    | write cmd params => simp only [awaitStep, hcur]
    | hwReset => exact absurd hcur noRequest
    | wait ms => simp only [awaitStep, hcur]

/-- The block reads the agents' answers in AWAIT alone: two cycles with the same `rst_n` and the same start are the same
step unless `awaitStep` tells them apart. -/
theorem step_congr {s t : State} (hreset : s.inputs.blockReset = t.inputs.blockReset)
    (hbegin : beginCycle s = beginCycle t)
    (hawait : s.phase = .await → awaitStep s.inputs (beginCycle s) = awaitStep t.inputs (beginCycle s)) :
    step s = step t := by
  have hphase : s.phase = t.phase := by simpa using congrArg State.phase hbegin
  cases reset : s.inputs.blockReset with
  | true => rw [step_blockReset reset, step_blockReset (hreset ▸ reset), hbegin]
  | false =>
    have reset' : t.inputs.blockReset = false := hreset ▸ reset
    cases phase : s.phase with
    | idle => rw [step_idle reset phase, step_idle reset' (hphase ▸ phase), hbegin]
    | issue => rw [step_issue reset phase, step_issue reset' (hphase ▸ phase), hbegin]
    | await => rw [step_await reset phase, step_await reset' (hphase ▸ phase), hawait phase, hbegin]

/-- Settles O39: an answer changes no word presented and no `rst_n`, and without its request `awaitStep` does not read
it. -/
theorem unmatchedAnswersIgnored : Obligations.UnmatchedAnswersIgnored := by
  intro s inp rest
  refine ⟨fun unmatched chDone chErr => step_congr rfl rfl fun await => ?_,
    fun unmatched rstDone => step_congr rfl rfl fun await => ?_⟩
  · refine awaitStep_noWrite (fun outstanding => ?_) inp chDone chErr
    exact unmatched ⟨await, outstanding⟩
  · refine awaitStep_noReset (fun outstanding => ?_) inp rstDone
    exact unmatched ⟨await, outstanding⟩

end Sys2Proof.Machine
end

section
/-! PROOFS. 40_sequencer.md R91 to R93, R95, R97 to R100: what a step of the sequencer leaves, as a whole state, in
ISSUE and when an agent answers. -/

namespace Sys2Proof.Machine

/-- Settles O20: in IDLE each arm of `exec` launches what R91's one function builds. -/
theorem acceptFollowsBuild : Obligations.AcceptFollowsBuild :=
  fun w _ idle => exec_req_idle w idle

/-- In ISSUE the action at `SEQ_IDX` is presented (40_sequencer.md R93). -/
theorem issueStep_present {s : State} {act : Action} (cur : s.current = some act) :
    issueStep s = .next (present act s) := by
  simp only [issueStep, cur]

/-- No action stands at the end of the program (10_state.md R23). -/
theorem current_eq_none_iff {s : State} : s.current = none ↔ s.prog.length ≤ s.position :=
  List.getElem?_eq_none_iff

/-- In ISSUE the end of the program completes the operation (40_sequencer.md R92). -/
theorem issueStep_complete {s : State} (atEnd : s.position = s.prog.length) :
    issueStep s = .next (complete s.endCode s) := by
  have cur : s.current = none := current_eq_none_iff.mpr atEnd.ge
  simp only [issueStep, cur, if_pos atEnd]

/-- Presenting a write while the count is below 255 (40_sequencer.md R95). -/
theorem presentWrite_of_ne {s : State} (cmd : Byte) (params : List Byte) (h : s.wrCount ≠ 255) :
    presentWrite cmd params s = { s with
      wrCount := s.wrCount + 1, lastCmd := cmd, chCmd := cmd, chNparams := countParams params,
      chParams := packParams params, chValid := true, phase := .await } := by
  simp only [presentWrite, countWrite_of_ne _ h]

/-- Presenting the 256th write (log 24). -/
theorem presentWrite_full {s : State} (cmd : Byte) (params : List Byte) (h : s.wrCount = 255) :
    presentWrite cmd params s = { s with
      wrCount := Config.freeByte s.draws, draws := s.draws + 1, lastCmd := cmd, chCmd := cmd,
      chNparams := countParams params, chParams := packParams params, chValid := true, phase := .await } := by
  simp only [presentWrite, h, countWrite_full]

/-- Settles O27: the step is `presentWrite` on the start of the cycle, below 255 writes and past them. -/
theorem issuePresentsWrite : Obligations.IssuePresentsWrite := by
  intro s cmd params issue noReset cur
  have cur' : (beginCycle s).current = some (.write cmd params) := cur
  have hstep : step s = .next (presentWrite cmd params (beginCycle s)) := by
    rw [step_issue noReset issue, issueStep_present cur', present]
  refine ⟨fun below => ?_, fun full => ⟨Config.freeByte s.draws, ?_⟩⟩
  · rw [hstep, presentWrite_of_ne (s := beginCycle s) cmd params below]
    rfl
  · rw [hstep, presentWrite_full (s := beginCycle s) cmd params full]
    rfl

/-- Settles O28: the step presents the action at `SEQ_IDX` on the start of the cycle. -/
theorem issuePresentsResetAndWait : Obligations.IssuePresentsResetAndWait := by
  intro s issue noReset
  rw [step_issue noReset issue]
  exact ⟨fun cur => issueStep_present (s := beginCycle s) cur,
    fun ms cur => issueStep_present (s := beginCycle s) cur⟩

/-- Settles O33: the step is `complete` on the start of the cycle. -/
theorem programEndCompletes : Obligations.ProgramEndCompletes := by
  intro s issue noReset atEnd
  rw [step_issue noReset issue]
  exact issueStep_complete (s := beginCycle s) atEnd

/-- The channel answers the outstanding write with `io_error` (40_sequencer.md R97). -/
theorem awaitStep_channelErr {inp : Inputs} {s : State} {cmd : Byte} {params : List Byte}
    (cur : s.current = some (.write cmd params)) (answered : inp.chDone = true) (error : inp.chErr = true) :
    awaitStep inp s = .next (channelErr cmd params s) := by
  simp only [awaitStep, cur, answered, error, if_true]

/-- A failed write is recorded and the operation completes with `HW_ERROR` at once (40_sequencer.md R97, R100). -/
theorem channelErr_eq (cmd : Byte) (params : List Byte) (s : State) :
    channelErr cmd params s = { s with
      trace := s.trace ++ [.write cmd params .ioError, .done .hwError], chValid := false, code := .hwError,
      prog := [], seqIdx := 0, seqPast := false, phase := .idle, done := true } := by
  simp only [channelErr, complete, record, List.append_assoc, List.cons_append, List.nil_append]

/-- Settles O30: the answer is `channelErr` on the start of the cycle. -/
theorem channelErrorEndsOperation : Obligations.ChannelErrorEndsOperation := by
  intro s cmd params await noReset cur answered error
  have cur' : (beginCycle s).current = some (.write cmd params) := cur
  rw [step_await noReset await, awaitStep_channelErr cur' answered error, channelErr_eq]
  rfl

/-- The reset function returns (40_sequencer.md R98). -/
theorem awaitStep_resetDone {inp : Inputs} {s : State} (cur : s.current = some .hwReset)
    (answered : inp.rstDone = true) : awaitStep inp s = .next (resetDone s) := by
  simp only [awaitStep, cur, answered, if_true]

/-- The return of the reset function below index 255 (40_sequencer.md R98). -/
theorem resetDone_of_ne {s : State} (h : s.seqIdx ≠ 255) :
    resetDone s = { s with
      trace := s.trace ++ [.reset], rstReq := false, seqIdx := s.seqIdx + 1, phase := .issue } := by
  simp only [resetDone, record, advance, advanceIdx_of_ne _ _ h]

/-- The reset request that returns is the last of 256 actions (log 24). -/
theorem resetDone_full {s : State} (h : s.seqIdx = 255) :
    resetDone s = { s with
      trace := s.trace ++ [.reset], rstReq := false, seqIdx := Config.freeByte s.draws, seqPast := true,
      draws := s.draws + 1, phase := .issue } := by
  simp only [resetDone, record, advance, h, advanceIdx_full]

/-- Settles O31: below index 255 and past it, the answer is `resetDone` on the start of the cycle. -/
theorem resetDoneAdvances : Obligations.ResetDoneAdvances := by
  intro s await noReset cur answered
  have cur' : (beginCycle s).current = some .hwReset := cur
  rw [step_await noReset await, awaitStep_resetDone cur' answered]
  refine ⟨fun below => ?_, fun full => ⟨Config.freeByte s.draws, ?_⟩⟩
  · rw [resetDone_of_ne (s := beginCycle s) below]
    rfl
  · rw [resetDone_full (s := beginCycle s) full]
    rfl

end Sys2Proof.Machine
end

section
/-! PROOFS. 40_sequencer.md R94, R103: a consistent state always has a next one, and a silent agent hangs the block. -/

namespace Sys2Proof.Machine

/-- With no `ch_done` a cycle leaves an outstanding write as it is (40_sequencer.md R94). -/
theorem awaitStep_write_silent {inp : Inputs} {s : State} {cmd : Byte} {params : List Byte}
    (cur : s.current = some (.write cmd params)) (silent : inp.chDone = false) : awaitStep inp s = .next s := by
  simp only [awaitStep, cur, silent, Bool.false_eq_true, if_false]

/-- With no `rst_done` a cycle leaves an outstanding reset request as it is (40_sequencer.md R94). -/
theorem awaitStep_hwReset_silent {inp : Inputs} {s : State} (cur : s.current = some .hwReset)
    (silent : inp.rstDone = false) : awaitStep inp s = .next s := by
  simp only [awaitStep, cur, silent, Bool.false_eq_true, if_false]

/-- The GT handshake always answers a next state. -/
theorem takeGt_total (s : State) : ∃ t, takeGt s = .next t := by
  cases h : s.gtQ with
  | nil => exact ⟨s, takeGt_nil h⟩
  | cons w rest =>
    rw [takeGt_cons h]
    exact exec_total _ _

/-- The request handshake always answers a next state. -/
theorem takeReq_total (s : State) : ∃ t, takeReq s = .next t := by
  cases h : s.reqQ with
  | nil => exact ⟨s, takeReq_nil h⟩
  | cons w rest =>
    rw [takeReq_cons h]
    exact exec_total _ _

/-- A cycle in IDLE always answers a next state. -/
theorem idleStep_total (s : State) : ∃ t, idleStep s = .next t := by
  obtain ⟨u, taken⟩ := takeGt_total s
  rw [idleStep_of_takeGt taken]
  exact takeReq_total u

/-- In ISSUE a position inside the program presents its action, and the one at its end completes (10_state.md R23). -/
theorem issueStep_total {s : State} (inside : s.position ≤ s.prog.length) : ∃ t, issueStep s = .next t := by
  cases cur : s.current with
  | some act => exact ⟨_, issueStep_present cur⟩
  | none => exact ⟨_, issueStep_complete (inside.antisymm (current_eq_none_iff.mp cur))⟩

/-- In AWAIT, with an action outstanding, every answer and the lack of one have a next state. -/
theorem awaitStep_total {s : State} {act : Action} (inp : Inputs) (cur : s.current = some act) :
    ∃ t, awaitStep inp s = .next t := by
  cases act with
  | hwReset =>
    cases answered : inp.rstDone with
    | false => exact ⟨_, awaitStep_hwReset_silent cur answered⟩
    | true => exact ⟨_, awaitStep_resetDone cur answered⟩
  | write cmd params =>
    cases answered : inp.chDone with
    | false => exact ⟨_, awaitStep_write_silent cur answered⟩
    | true =>
      cases error : inp.chErr with
      | false => exact ⟨_, awaitStep_channelOk cur answered error⟩
      | true => exact ⟨_, awaitStep_channelErr cur answered error⟩
  | wait ms =>
    by_cases zero : s.waitCtr = 0
    · cases late : inp.timerLate with
      | false => exact ⟨_, awaitStep_wait_ends cur zero late⟩
      | true => exact ⟨_, awaitStep_wait_late cur zero late⟩
    · exact ⟨_, awaitStep_wait_counts cur zero⟩

/-- Settles O49: the invariant rules out both faults, since `SEQ_IDX` is inside the program and AWAIT has its action. -/
theorem consistentStateSteps : Obligations.ConsistentStateSteps := by
  intro s hs
  cases reset : s.inputs.blockReset with
  | true => exact ⟨_, step_blockReset reset⟩
  | false =>
    cases phase : s.phase with
    | idle =>
      rw [step_idle reset phase]
      exact idleStep_total _
    | issue =>
      rw [step_issue reset phase]
      exact issueStep_total (s := beginCycle s) hs.idxInside
    | await =>
      obtain ⟨act, cur, -⟩ := hs.awaitOne phase
      rw [step_await reset phase]
      exact awaitStep_total (s := beginCycle s) s.inputs cur

/-- What holds of a quiet cycle and of every cycle of the schedule holds of the coming one (log 6). -/
theorem inputs_of_env {P : Inputs → Prop} {s : State} (quiet : P Inputs.quiet) (h : ∀ inp ∈ s.env, P inp) :
    P s.inputs := by
  cases henv : s.env with
  | nil => simpa [State.inputs, henv] using quiet
  | cons inp rest => simpa [State.inputs, henv] using h inp (by simp [henv])

/-- The first of `n + 1` steps. -/
theorem core_run_succ {s t : State} (n : Nat) (h : step s = .next t) :
    Host.Core.run Sys2Proof.core (n + 1) s = Host.Core.run Sys2Proof.core n t := by
  have hcore : Sys2Proof.core.step s = .next t := h
  simp only [Host.Core.run, hcore]

/-- A step of a write or a reset request that nobody answers is the start of a cycle alone (40_sequencer.md R103). -/
theorem step_silent {s : State} {act : Action} (await : s.phase = .await) (cur : s.current = some act)
    (agent : act.isWrite || act.isReset) (noReset : s.inputs.blockReset = false)
    (noChannel : s.inputs.chDone = false) (noReturn : s.inputs.rstDone = false) :
    step s = .next (beginCycle s) := by
  rw [step_await noReset await]
  cases act with
  | hwReset => exact awaitStep_hwReset_silent (s := beginCycle s) cur noReturn
  | write cmd params => exact awaitStep_write_silent (s := beginCycle s) cur noChannel
  | wait ms => cases agent

/-- Settles O37, by induction on the number of steps: each one is silent and leaves the same action outstanding. -/
theorem silentAgentHangsBlock : Obligations.SilentAgentHangsBlock := by
  intro s act await cur agent silent n
  induction n generalizing s with
  | zero => exact ⟨s, rfl, await, busy_iff.mpr (by simp [await]), cur, rfl, rfl, rfl⟩
  | succ n ih =>
    obtain ⟨noReset, noChannel, noReturn⟩ := inputs_of_env ⟨rfl, rfl, rfl⟩ silent
    obtain ⟨t, hrun, kept⟩ := ih (beginCycle s) await cur fun inp hmem => silent inp (List.mem_of_mem_tail hmem)
    exact ⟨t, (core_run_succ n (step_silent await cur agent noReset noChannel noReturn)).trans hrun, kept⟩

end Sys2Proof.Machine
end

section
/-! PROOFS. 41_initializer.md: the program INIT launches (R111, R118), its counts (R121), and how its run ends (R120;
10_state.md R33). -/

namespace Sys2Proof.Machine

/-- R111's program under R7's geometry: the window of its last three writes is 0,0 to 239,319 (41_initializer.md
R118). -/
theorem initProg_legal (c : LegalCfg) :
    initProg c.val =
      [.hwReset, .write c.val.cmdSwreset [], .wait c.val.tSwresetMs, .write c.val.cmdDispoff []]
        ++ c.val.vendorBlock.map (fun e => .write e.cmd e.params)
        ++ [.write c.val.cmdSlpout [], .wait c.val.tSlpoutMs, .write c.val.cmdDispon [], .wait c.val.tDisponMs,
          .write c.val.cmdCaset [0x00, 0x00, 0x00, 0xEF], .write c.val.cmdRaset [0x00, 0x00, 0x01, 0x3F],
          .write c.val.cmdRamwr []] := by
  obtain ⟨hwidth, hheight, -⟩ := c.geometry
  have hcols : coordPair 0 (240 - 1) = [0x00, 0x00, 0x00, 0xEF] := by decide
  have hrows : coordPair 0 (320 - 1) = [0x00, 0x00, 0x01, 0x3F] := by decide
  simp only [initProg, vendorWrites, winProg, hwidth, hheight, hcols, hrows, List.append_assoc, List.cons_append,
    List.nil_append]

/-- INIT in IDLE launches R111's program (41_initializer.md R110). -/
theorem exec_init_idle {s : State} (a b c d : U16) (idle : s.phase = .idle) :
    exec (.init a b c d) s = .next (launch 0x1 a b c d (Built.program (initProg s.conf) s) s) :=
  accept_idle idle

/-- Settles O10: accept launches R111's program, whose window legality fixes. -/
theorem initBuildsPowerOnSequence : Obligations.InitBuildsPowerOnSequence := by
  intro a b c d s idle
  rw [exec_init_idle a b c d idle, Built.program, initProg_legal]
  rfl

/-! The counts of INIT's program (41_initializer.md R121). -/

/-- Every entry of the vendor block is one write (41_initializer.md R115). -/
@[simp] theorem writesIn_vendorWrites (c : Cfg) : writesIn (vendorWrites c) = c.nVendor := by
  unfold vendorWrites Cfg.nVendor
  induction c.vendorBlock with
  | nil => rfl
  | cons e es ih => simp [writesIn, ih]

theorem writesIn_initProg (c : Cfg) : writesIn (initProg c) = c.nVendor + 7 := by
  simp +arith [initProg, winProg, writesIn]

/-- INIT's last action is the write that arms (41_initializer.md R118, 10_state.md R33). -/
theorem initProg_ends_with_ramwr (c : Cfg) : ∃ acts, initProg c = acts ++ [.write c.cmdRamwr []] :=
  ⟨_, (List.append_assoc _ [_, _] [_]).symm⟩

/-- A write of a program is one more than the writes before it. -/
theorem writesIn_take_lt {prog : List Action} {k : Nat} {cmd : Byte} {params : List Byte}
    (h : prog[k]? = some (.write cmd params)) : writesIn (prog.take k) < writesIn prog := by
  obtain ⟨hk, hget⟩ := List.getElem?_eq_some_iff.mp h
  have hsplit : writesIn prog = writesIn (prog.take k) + writesIn (prog.drop k) := by
    rw [← writesIn_append, List.take_append_drop]
  rw [List.drop_eq_getElem_cons hk, hget, writesIn] at hsplit
  omega

/-! How an operation that an accept launched ends, and what it leaves of the armed state. -/

/-- Accept leaves the sequencer's invariant (40_sequencer.md R90). -/
theorem SeqInv.launch {s : State} {built : Built} (hs : SeqInv s) (idle : s.phase = .idle)
    (fits : ProgramFits built.prog) (op : U4) (a b c d : U16) : SeqInv (launch op a b c d built s) := by
  obtain ⟨-, -, -, hch, hrst⟩ := hs.idleEmpty idle
  exact seqInv_of_issue rfl fits (Nat.zero_le _) ⟨hch, hrst⟩

/-- A run from the state accept leaves is a whole operation. -/
theorem OpRun.operationOver_of_launch {s t : State} {op : U4} {a b c d : U16} {built : Built}
    (hrun : OpRun (launch op a b c d built s) t) (hs : SeqInv s) (idle : s.phase = .idle)
    (fits : ProgramFits built.prog) : OperationOver (launch op a b c d built s) t :=
  hrun.operationOver (.start (hs.launch idle fits op a b c d) rfl rfl rfl rfl)

theorem OpRun.cfg_eq {s t : State} (hrun : OpRun s t) : t.cfg = s.cfg := by
  induction hrun with
  | last _ _ next _ => exact step_cfg next
  | more _ _ next _ _ ih => exact ih.trans (step_cfg next)

/-- A program that ends with a memory write leaves memory-write mode armed (10_state.md R33). -/
theorem RanToEnd.armed {s t : State} {acts : List Action} (h : RanToEnd s t) (cfg : t.cfg = s.cfg)
    (ends : s.prog = acts ++ [.write s.conf.cmdRamwr []]) : t.armed = true := by
  rw [State.armed, h.trace, ends, State.conf, cfg]
  simp [okEvents, okEvent, armStep]

/-- A failed write leaves memory-write mode disarmed, whatever its command (10_state.md R33). -/
theorem FailedAt.disarmed {s t : State} {k : Nat} {cmd : Byte} {params : List Byte}
    (h : FailedAt s t k cmd params) : t.armed = false := by
  rw [State.armed, h.trace]
  simp [armStep]

/-- Settles O57: the run is one whole operation of INIT's program, which has at most 250 writes, so that `WR_COUNT`
shows their number. -/
theorem initRunOutcome : Obligations.InitRunOutcome := by
  intro a b c d s u t hseq idle hexec hrun
  cases (exec_init_idle a b c d idle).symm.trans hexec
  have hvendor : s.conf.nVendor ≤ 243 := s.cfg.nVendor_le
  have hwrites := writesIn_initProg s.conf
  have hshown : writesIn (initProg s.conf) ≤ 255 := by omega
  obtain ⟨acts, hends⟩ := initProg_ends_with_ramwr s.conf
  obtain hran | ⟨k, cmd, params, hfail⟩ := (hrun.operationOver_of_launch hseq idle (initProg_fits s.cfg)).outcome
  · have hcount : t.wrCount.toNat = writesIn (initProg s.conf) := hran.count hshown
    have hlast : t.lastCmd = lastWriteCmd 0 (initProg s.conf) := hran.lastCmd
    refine .inl ⟨hran.code, hcount.trans hwrites, ?_, hran.armed hrun.cfg_eq hends, hran.trace⟩
    rw [hlast, hends, lastWriteCmd_append]
    rfl
  · have hwrite : (initProg s.conf)[k]? = some (.write cmd params) := hfail.write
    have hbefore := writesIn_take_lt hwrite
    have hcount : t.wrCount.toNat = writesIn ((initProg s.conf).take k) + 1 :=
      hfail.count (hbefore.trans_le hshown)
    exact .inr ⟨hfail.code, hfail.disarmed, k, cmd, params, hwrite, hcount, by omega, hfail.lastCmd, hfail.trace⟩

end Sys2Proof.Machine
end

section
/-! PROOFS. 42_window.md: the program SETWIN launches (R130 to R132), its three writes, and how its run ends (R133,
R134; 10_state.md R33). -/

namespace Sys2Proof.Machine

/-- `v[15:8]` is `v >> 8` (42_window.md R131): eight bits hold what the shift leaves of sixteen. -/
theorem hiByte_toNat (v : U16) : (hiByte v).toNat = v.toNat >>> 8 := by
  have hfits : v.toNat >>> 8 < 2 ^ 8 := by
    rw [Nat.shiftRight_eq_div_pow]
    omega
  rw [hiByte, BitVec.extractLsb'_toNat, Nat.mod_eq_of_lt hfits]

/-- `v[7:0]` is `v & 0xFF` (42_window.md R131). -/
theorem loByte_toNat (v : U16) : (loByte v).toNat = v.toNat &&& 0xFF := by
  rw [loByte, BitVec.extractLsb'_toNat, Nat.shiftRight_zero]
  exact (Nat.and_two_pow_sub_one_eq_mod v.toNat 8).symm

/-- SETWIN in IDLE launches R130's program, whatever the operands (42_window.md R132). -/
theorem exec_setwin_idle {s : State} (xs ys xe ye : U16) (idle : s.phase = .idle) :
    exec (.setwin xs ys xe ye) s =
      .next (launch 0x2 xs ys xe ye (Built.program (winProg s.conf xs ys xe ye) s) s) :=
  accept_idle idle

/-- Settles O11: accept launches R130's program. -/
theorem setwinBuildsThreeWrites : Obligations.SetwinBuildsThreeWrites :=
  fun xs ys xe ye _ idle => exec_setwin_idle xs ys xe ye idle

/-- Settles O24: the bytes of a coordinate, and the launched program that sends them. -/
theorem coordinateBytes : Obligations.CoordinateBytes :=
  ⟨fun v => ⟨hiByte_toNat v, loByte_toNat v⟩,
   fun xs ys xe ye _ idle => ⟨_, exec_setwin_idle xs ys xe ye idle, rfl⟩⟩

/-- Where every action is a write, the writes are counted by the position. -/
theorem writesIn_eq_length {acts : List Action} (h : ∀ act ∈ acts, act.isWrite = true) :
    writesIn acts = acts.length := by
  induction acts with
  | nil => rfl
  | cons act acts ih =>
    have hrest := ih fun a ha => h a (List.mem_cons_of_mem _ ha)
    cases act with
    | write => rw [writesIn, hrest, List.length_cons]
    | hwReset | wait => exact absurd (h _ List.mem_cons_self) Bool.false_ne_true

/-- SETWIN's program holds writes only (42_window.md R130). -/
theorem winProg_isWrite {c : Cfg} {xs ys xe ye : U16} : ∀ act ∈ winProg c xs ys xe ye, act.isWrite = true := by
  simp [winProg, Action.isWrite]

/-- Write `n` of SETWIN stands at index `n - 1` of its program: each action before it is a write. -/
theorem writesIn_take_winProg (c : Cfg) (xs ys xe ye : U16) {k : Nat} (h : k ≤ 3) :
    writesIn ((winProg c xs ys xe ye).take k) = k := by
  rw [writesIn_eq_length fun act hact => winProg_isWrite act (List.mem_of_mem_take hact), List.length_take]
  exact Nat.min_eq_left h

/-- Settles O58: the run is one whole operation of SETWIN's program, in which write `n` is action `n - 1`. -/
theorem setwinRunOutcome : Obligations.SetwinRunOutcome := by
  intro xs ys xe ye s u t hseq idle hexec hrun
  cases (exec_setwin_idle xs ys xe ye idle).symm.trans hexec
  obtain hran | ⟨k, cmd, params, hfail⟩ :=
    (hrun.operationOver_of_launch hseq idle (winProg_fits s.conf xs ys xe ye)).outcome
  · have hcount : t.wrCount.toNat = 3 := hran.count (by decide : 3 ≤ 255)
    have harmed : t.armed = true := hran.armed (acts := [_, _]) hrun.cfg_eq rfl
    exact .inl ⟨hran.code, BitVec.eq_of_toNat_eq hcount, hran.lastCmd, harmed,
      hran.trace.trans (by simp [launch, Built.program, winProg, okEvents, okEvent])⟩
  · have hwrite : (winProg s.conf xs ys xe ye)[k]? = some (.write cmd params) := hfail.write
    have hk : k < 3 := (List.getElem?_eq_some_iff.mp hwrite).1
    have hbefore := writesIn_take_winProg s.conf xs ys xe ye hk.le
    have hshows : t.countShows (k + 1) := hbefore ▸ hfail.count
    have hcount : t.wrCount.toNat = k + 1 := hshows (by omega)
    exact .inr ⟨hfail.code, hfail.disarmed, k + 1, by omega, hk, hcount, cmd, params, hwrite, hfail.lastCmd,
      hfail.trace⟩

end Sys2Proof.Machine
end

section
/-! PROOFS. 43_orientation.md: the rotations an operand selects (R142, R146), the program SETORI launches (R140, R142),
and its eight MADCTL values (R141, R144). -/

namespace Sys2Proof.Machine

/-- The supported operands are the four angles, each with its rotation (43_orientation.md R140). -/
theorem selectRotation_eq_some_iff {deg : U16} {r : Rotation} :
    selectRotation deg = some r ↔
      (deg, r) ∈ [(0#16, Rotation.r0), (90#16, .r90), (180#16, .r180), (270#16, .r270)] := by
  simp only [List.mem_cons, List.not_mem_nil, or_false, Prod.mk.injEq]
  constructor
  · intro h
    unfold selectRotation at h
    split_ifs at h with h0 h90 h180 h270
    · exact .inl ⟨h0, (Option.some.inj h).symm⟩
    · exact .inr (.inl ⟨h90, (Option.some.inj h).symm⟩)
    · exact .inr (.inr (.inl ⟨h180, (Option.some.inj h).symm⟩))
    · exact .inr (.inr (.inr ⟨h270, (Option.some.inj h).symm⟩))
  · rintro (⟨rfl, rfl⟩ | ⟨rfl, rfl⟩ | ⟨rfl, rfl⟩ | ⟨rfl, rfl⟩) <;> rfl

/-- The four angles select a rotation. -/
theorem exists_selectRotation_iff {deg : U16} :
    (∃ r, selectRotation deg = some r) ↔ deg ∈ [0#16, 90#16, 180#16, 270#16] := by
  simp [selectRotation_eq_some_iff, exists_or]

/-- Every other operand is unsupported: an angle is compared as it stands, not modulo 360 (43_orientation.md R146). -/
theorem selectRotation_eq_none_iff {deg : U16} :
    selectRotation deg = none ↔ deg ∉ [0#16, 90#16, 180#16, 270#16] := by
  rw [← exists_selectRotation_iff, ← Option.ne_none_iff_exists', ne_eq, not_not]

/-- The builder's answer for a supported rotation is one MADCTL write (43_orientation.md R140). -/
theorem oriBuild_supported {deg : U16} {r : Rotation} (bgr : Bool) (s : State) (h : selectRotation deg = some r) :
    oriBuild deg bgr s = Built.program [.write s.conf.cmdMadctl [macValue s.conf r bgr]] s := by
  simp only [oriBuild, h]

/-- The builder's answer for any other rotation is the rejection (43_orientation.md R142). -/
theorem oriBuild_unsupported {deg : U16} (bgr : Bool) (s : State) (h : selectRotation deg = none) :
    oriBuild deg bgr s = Built.reject .unsupportedRotation s := by
  simp only [oriBuild, h]

/-- SETORI in IDLE launches what its builder answers for `OPD[0]` (43_orientation.md R140). -/
theorem exec_setori_idle {s : State} (deg b c d : U16) (idle : s.phase = .idle) :
    exec (.setori deg b c d) s = .next (launch 0x3 deg b c d (oriBuild deg (d.getLsbD 0) s) s) :=
  accept_idle idle

/-- Settles O12: the operand selects its rotation, and accept launches R140's one write. -/
theorem setoriBuildsMadctlWrite : Obligations.SetoriBuildsMadctlWrite := by
  intro deg b c d r s idle supported
  rw [exec_setori_idle deg b c d idle, oriBuild_supported _ s (selectRotation_eq_some_iff.mpr supported)]
  rfl

/-- Settles O13: the operand selects no rotation, and accept launches the empty program. -/
theorem setoriRejectsOtherRotations : Obligations.SetoriRejectsOtherRotations := by
  intro deg b c d s idle unsupported
  rw [exec_setori_idle deg b c d idle, oriBuild_unsupported _ s (selectRotation_eq_none_iff.mpr unsupported)]
  rfl

/-- The eight supported inputs of `MacValue`, in the order of 00_scope.md R14's values. -/
def madctlInputs : List (Rotation × Bool) :=
  [.r0, .r90, .r180, .r270].map (·, false) ++ [.r0, .r90, .r180, .r270].map (·, true)

/-- No input of `MacValue` is missing. -/
theorem mem_madctlInputs (r : Rotation) (bgr : Bool) : (r, bgr) ∈ madctlInputs := by
  cases r <;> cases bgr <;> decide

/-- R14's eight values are `MacValue` over the eight supported inputs (43_orientation.md R141). -/
theorem macValues_eq_map (c : Cfg) : c.macValues = madctlInputs.map fun (r, bgr) => macValue c r bgr := by
  simp [Cfg.macValues, madctlInputs, macValue, Cfg.macPat]

/-- Legality keeps the eight values apart (00_scope.md R14), so the value tells the rotation and the colour order. -/
theorem macValue_injective (c : LegalCfg) {r r' : Rotation} {bgr bgr' : Bool}
    (h : macValue c.val r bgr = macValue c.val r' bgr') : r = r' ∧ bgr = bgr' := by
  obtain ⟨-, -, -, -, -, -, -, hdistinct, -⟩ := c.val.legal_iff.mp c.property
  have hnodup : c.val.macValues.Nodup := of_decide_eq_true hdistinct
  rw [macValues_eq_map] at hnodup
  have hinj := List.inj_on_of_nodup_map hnodup
  exact Prod.mk.inj (hinj (mem_madctlInputs r bgr) (mem_madctlInputs r' bgr') h)

/-- Settles O26: legality makes `MacValue` injective, and a supported operand selects a rotation to write. -/
theorem eightDistinctMadctlValues : Obligations.EightDistinctMadctlValues := by
  refine ⟨fun c r r' bgr bgr' h => macValue_injective c h, fun deg b c d s supported idle => ?_⟩
  obtain ⟨r, hr⟩ := exists_selectRotation_iff.mpr supported
  refine ⟨_, macValue s.conf r (d.getLsbD 0), exec_setori_idle deg b c d idle, ?_⟩
  rw [oriBuild_supported _ s hr]
  rfl

end Sys2Proof.Machine
end

section
/-! PROOFS. 44_gamma.md: GTWR's one store (R150), and the program SETGAM launches for the right table length (R151, R153
to R156) and for any other (R152). -/

namespace Sys2Proof

/-- A curve has at least the 15 values its write sends (00_scope.md R14, 44_gamma.md R155). -/
theorem LegalCfg.fifteen_le_numValues (c : LegalCfg) : 15 ≤ c.val.numValues := by
  obtain ⟨-, hvalues, -⟩ := c.val.legal_iff.mp c.property
  exact of_decide_eq_true hvalues

namespace Machine

/-! GTWR: one store and one event. -/

/-- GTWR in IDLE is a GT write (44_gamma.md R150). -/
theorem exec_gtwr_idle {s : State} (addr : U16) (data : Byte) (idle : s.phase = .idle) :
    exec (.gtwr addr data) s = .next (record (.gtWrite addr data)
      { s with gt := Memory.store s.conf.gtDepth s.gt addr.toNat data }) :=
  gtWrite_idle idle

/-- A store at or above the depth is dropped (20_memory.md R52). -/
theorem Memory.store_of_le {depth i : Nat} (m : List Host.Cell) (v : Byte) (h : depth ≤ i) :
    Memory.store depth m i v = m :=
  if_neg h.not_gt

/-- Settles O18: the store's read laws, in range, at another index, and at or above the depth. -/
theorem gtwrWritesOneEntry : Obligations.GtwrWritesOneEntry := by
  intro addr data s idle
  refine ⟨_, exec_gtwr_idle addr data idle, rfl, fun below => ?_, fun k other => ?_, fun above => ?_⟩
  · rw [record_gt, Memory.read_store, if_pos ⟨rfl, below⟩]
  · rw [record_gt, Memory.read_store, if_neg fun same => other same.1]
  · exact Memory.store_of_le s.gt data above

/-! SETGAM: what its builder answers, and the writes of the curves. -/

/-- The builder's answer for the right length: one write per curve (44_gamma.md R151). -/
theorem gamBuild_rightLength {len : U16} {s : State} (h : len.toNat = s.conf.tableLen) :
    gamBuild len s = ⟨(curveWrites s.conf s.gt (List.range s.conf.numCurves) s.draws).1, .ok,
      (curveWrites s.conf s.gt (List.range s.conf.numCurves) s.draws).2⟩ :=
  if_pos h

/-- The builder's answer for any other length is the rejection (44_gamma.md R152). -/
theorem gamBuild_wrongLength {len : U16} {s : State} (h : len.toNat ≠ s.conf.tableLen) :
    gamBuild len s = Built.reject .invalidTable s :=
  if_neg h

/-- SETGAM in IDLE launches what its builder answers for the length (44_gamma.md R151). -/
theorem exec_setgam_idle {s : State} (len b c d : U16) (idle : s.phase = .idle) :
    exec (.setgam len b c d) s = .next (launch 0x4 len b c d (gamBuild len s) s) :=
  accept_idle idle

/-- Settles O16: the builder rejects the length, and accept launches the empty program. -/
theorem setgamRejectsWrongLength : Obligations.SetgamRejectsWrongLength := by
  intro len b c d s idle wrong
  rw [exec_setgam_idle len b c d idle, gamBuild_wrongLength wrong]
  rfl

/-- A curve write carries 15 bytes (44_gamma.md R155). -/
@[simp] theorem curveIndices_length (c : Cfg) (i : Nat) : (curveIndices c i).length = 15 := by
  simp [curveIndices]

/-- Byte `j` of curve `i` is the entry at its row-major offset (44_gamma.md R153). -/
theorem curveIndices_getElem? (c : Cfg) (i : Nat) {j : Nat} (h : j < 15) :
    (curveIndices c i)[j]? = some (i * c.numValues + j) := by
  simp [curveIndices, h]

/-- The entries that a curve's write reads lie in the table: a row is at least 15 entries wide (00_scope.md R14). -/
theorem curveIndices_lt_tableLen (c : LegalCfg) {i k : Nat} (hi : i < c.val.numCurves)
    (hk : k ∈ curveIndices c.val i) : k < c.val.tableLen := by
  obtain ⟨j, hj, rfl⟩ := List.mem_map.mp hk
  have hcolumn : j < c.val.numValues := (List.mem_range.mp hj).trans_le c.fifteen_le_numValues
  calc i * c.val.numValues + j
      < i * c.val.numValues + c.val.numValues := Nat.add_lt_add_left hcolumn _
    _ = (i + 1) * c.val.numValues := (Nat.succ_mul _ _).symm
    _ ≤ c.val.numCurves * c.val.numValues := Nat.mul_le_mul_right _ hi

/-- Curves whose entries all hold a value are sent as these values, with no free draw (44_gamma.md R151, R156). -/
theorem curveWrites_written {c : Cfg} {gt : List Host.Cell} {f : Nat → Byte} (is : List Nat) (n : Nat)
    (h : ∀ i ∈ is, ∀ k ∈ curveIndices c i, Memory.read gt k = some (f k)) :
    curveWrites c gt is n = (is.map fun i => .write (curveCmd c i) ((curveIndices c i).map f), n) := by
  induction is with
  | nil => rfl
  | cons i is ih =>
    have hcurve := readGts_written (curveIndices c i) n (h i List.mem_cons_self)
    have hrest := ih fun j hj => h j (List.mem_cons_of_mem i hj)
    simp only [curveWrites, hcurve, hrest, List.map_cons]

/-- Settles O14: a loaded table holds every entry that the curve writes read. -/
theorem setgamBuildsCurveWrites : Obligations.SetgamBuildsCurveWrites := by
  intro len b c d f s idle right loaded
  have hwritten := curveWrites_written (List.range s.conf.numCurves) s.draws fun i hi k hk =>
    loaded k (curveIndices_lt_tableLen s.cfg (List.mem_range.mp hi) hk)
  rw [exec_setgam_idle len b c d idle, gamBuild_rightLength right, hwritten]
  simp only [curveIndices, List.map_map]
  rfl

/-- In a block of reads an entry that holds a value is read as it, whatever draws the reads before it took. -/
theorem readGts_getElem?_written {gt : List Host.Cell} {is : List Nat} {j k : Nat} {v : Byte} (n : Nat)
    (hk : is[j]? = some k) (hv : Memory.read gt k = some v) : (readGts gt is n).1[j]? = some v := by
  induction is generalizing j n with
  | nil => simp at hk
  | cons i is ih =>
    cases j with
    | zero =>
      obtain rfl : i = k := by simpa using hk
      simp [readGts, readGt_written n hv]
    | succ j => exact ih _ (by simpa using hk)

/-- The write of the curve at position `k` reads its entries in order, after the draws of the writes before it. -/
theorem curveWrites_getElem? {c : Cfg} {gt : List Host.Cell} {is : List Nat} {k i : Nat} (n : Nat)
    (hk : is[k]? = some i) :
    ∃ m, (curveWrites c gt is n).1[k]? = some (.write (curveCmd c i) (readGts gt (curveIndices c i) m).1) := by
  induction is generalizing k n with
  | nil => simp at hk
  | cons i' is ih =>
    cases k with
    | zero =>
      obtain rfl : i' = i := by simpa using hk
      exact ⟨n, rfl⟩
    | succ k => exact ih _ (by simpa using hk)

/-- Settles O15: write `i` reads the 15 entries of curve `i`, and a written one gives its value. -/
theorem setgamSendsEveryWrittenEntry : Obligations.SetgamSendsEveryWrittenEntry := by
  intro len b c d s idle right
  refine ⟨_, exec_setgam_idle len b c d idle, ?_⟩
  rw [gamBuild_rightLength right]
  refine ⟨rfl, rfl, rfl, by simp, fun i hi => ?_⟩
  obtain ⟨m, hwrite⟩ := curveWrites_getElem? (c := s.conf) (gt := s.gt) s.draws (List.getElem?_range hi)
  exact ⟨_, hwrite, by simp, fun j hj v hv => readGts_getElem?_written m (curveIndices_getElem? s.conf i hj) hv⟩

end Machine
end Sys2Proof
end

section
/-! PROOFS. 60_exceptions.md: rejected requests (R172 to R174), and block reset over everything (R176). -/

namespace Sys2Proof.Machine

/-- In IDLE, with nothing counted, `STATUS` is its code alone (10_state.md R26). -/
theorem status_of_idle_unsent {s : State} (idle : s.phase = .idle) (count : s.wrCount = 0) (last : s.lastCmd = 0) :
    s.status = s.code.bits.setWidth 32 := by
  have hbusy : s.busy = false := by simp [State.busy, idle]
  rw [State.status, hbusy, count, last]
  cases s.code <;> rfl

/-- The life of a request that accept rejected with `code`: an empty program, whose run can only reach its end. No
write is presented, and the two events of the operation leave the armed state alone (60_exceptions.md R172 to R174). -/
theorem OpRun.rejected {s t : State} {op : U4} {a b c d : U16} {code : Code}
    (hrun : OpRun (launch op a b c d (Built.reject code s) s) t) (hs : SeqInv s) (idle : s.phase = .idle) :
    t.status = code.bits.setWidth 32 ∧ t.armed = s.armed ∧
      t.trace = s.trace ++ [.accept op a b c d, .done code] := by
  have hover := hrun.operationOver_of_launch hs idle programFits_nil
  obtain hran | ⟨k, cmd, params, hfail⟩ := hover.outcome
  · have hcode : t.code = code := hran.code
    have hcount : t.wrCount.toNat = 0 := hran.count (Nat.zero_le _)
    have hstatus := status_of_idle_unsent hover.idle (BitVec.eq_of_toNat_eq hcount) hran.lastCmd
    have htrace : t.trace = s.trace ++ [.accept op a b c d, .done code] :=
      hran.trace.trans (by simp [launch, Built.reject, okEvents])
    have hcfg : t.cfg = s.cfg := hrun.cfg_eq
    refine ⟨hcode ▸ hstatus, ?_, htrace⟩
    rw [State.armed, htrace, State.conf, hcfg, armedTrace_append]
    rfl
  · have hwrite : ([] : List Action)[k]? = some (.write cmd params) := hfail.write
    simp at hwrite

/-- A reserved request in IDLE is accepted and rejected (30_encoding.md R76). -/
theorem exec_rsv_idle {s : State} (opc : U4) (a b c d : U16) (idle : s.phase = .idle) :
    exec (.rsv opc a b c d) s = .next (launch opc a b c d (Built.reject .illegalOp s) s) :=
  accept_idle idle

/-- Settles O60: each of the three requests launches its builder's rejection, whose run is `OpRun.rejected`. -/
theorem rejectedRequestSendsNothing : Obligations.RejectedRequestSendsNothing := by
  intro i s u t hseq idle hexec hrun
  refine ⟨?_, ?_, ?_⟩
  · rintro rot b c d rfl unsupported
    have hreject := oriBuild_unsupported (d.getLsbD 0) s (selectRotation_eq_none_iff.mpr unsupported)
    cases (exec_setori_idle rot b c d idle).symm.trans hexec
    rw [hreject] at hrun
    exact hrun.rejected hseq idle
  · rintro len b c d rfl wrong
    cases (exec_setgam_idle len b c d idle).symm.trans hexec
    rw [gamBuild_wrongLength wrong] at hrun
    exact hrun.rejected hseq idle
  · rintro opc a b c d rfl -
    cases (exec_rsv_idle opc a b c d idle).symm.trans hexec
    exact hrun.rejected hseq idle

/-- Settles O34: the step is block reset whatever the phase and the other inputs; R38's table gives the registers, and
what is not a register is kept. -/
theorem blockResetWins : Obligations.BlockResetWins := by
  intro s reset
  have hvalues := hasResetValues_blockReset (beginCycle s)
  exact ⟨_, step_blockReset reset, hvalues.phase, hvalues.op, hvalues.opa, hvalues.opb, hvalues.opc, hvalues.opd,
    hvalues.seqIdx, hvalues.prog, hvalues.endCode, hvalues.status, hvalues.done, hvalues.waitCtr, hvalues.chValid,
    hvalues.rstReq, fun _ => rfl, rfl, rfl, hvalues.armed⟩

end Sys2Proof.Machine
end

section
/-! PROOFS. 70_reset_and_hazards.md R191 (log 25): each block reset of the trace has its entry in the list of dropped
actions. -/

namespace Sys2Proof.Machine

/-- Events that hold no block reset need no entry in the list. -/
theorem AbandonedInv.extend {s t : State} {events : List Event} (hs : AbandonedInv s)
    (kept : t.abandoned = s.abandoned) (extended : t.trace = s.trace ++ events)
    (noBlockReset : .blockReset ∉ events) : AbandonedInv t := by
  have hcount : events.count .blockReset = 0 := List.count_eq_zero_of_not_mem noBlockReset
  rw [AbandonedInv, kept, extended, List.count_append, hcount, Nat.add_zero]
  exact hs

/-- Block reset records its event and notes what it dropped, one entry each (70_reset_and_hazards.md R190, R191). -/
theorem AbandonedInv.blockReset {s : State} (hs : AbandonedInv s) : AbandonedInv (blockReset s) := by
  have hlength : s.abandoned.length = s.trace.count .blockReset := hs
  rw [AbandonedInv, blockReset_abandoned, blockReset_trace, List.length_append, List.count_append, hlength]
  rfl

/-- The GT handshake records at most an `EvGtWrite`. -/
theorem AbandonedInv.takeGt {s u : State} (hs : AbandonedInv s) (taken : takeGt s = .next u) :
    AbandonedInv u := by
  obtain ⟨-, rfl⟩ | ⟨w, rest, -, hexec⟩ := takeGt_cases taken
  · exact hs
  · obtain ⟨-, rfl⟩ | ⟨-, rfl⟩ := gtWrite_cases hexec
    · exact hs.extend rfl rfl (by simp)
    · exact hs

@[simp] theorem present_abandoned (act : Action) (s : State) : (present act s).abandoned = s.abandoned := by
  cases act <;> rfl

@[simp] theorem actionDone_abandoned (act : Action) (s : State) :
    (actionDone act s).abandoned = s.abandoned := by cases act <;> rfl

/-- The event of an action's success is not a block reset: an `EvReset` is the controller's (00_scope.md R18). -/
theorem okEvent_ne_blockReset (act : Action) : okEvent act ≠ .blockReset := by cases act <;> simp [okEvent]

/-- Settles O47: among the transitions only block reset records an `EvBlockReset` or notes a dropped action, and it
does both. -/
theorem stepKeepsAbandoned : Obligations.StepKeepsAbandoned := by
  intro s t hs h
  have hbegin : AbandonedInv (beginCycle s) := hs
  cases stepEffect_of_step h with
  | blockReset => exact hbegin.blockReset
  | idles _ _ taken => exact hbegin.takeGt taken
  | accepts _ _ taken _ => exact (hbegin.takeGt taken).extend rfl rfl (by simp)
  | presents => exact hbegin.extend (events := []) (present_abandoned ..) (by simp) (by simp)
  | completes => exact hbegin.extend rfl rfl (by simp)
  | advances =>
    exact hbegin.extend (actionDone_abandoned ..) (actionDone_trace ..)
      (by simpa using (okEvent_ne_blockReset _).symm)
  | fails => exact hbegin.extend rfl ((channelErr_trace ..).trans (List.append_assoc ..)) (by simp)
  | waits => exact hs

end Sys2Proof.Machine
end

section
/-! PROOFS. 70_reset_and_hazards.md R202: under prompt answers the cycles an operation can still take go down with
every step, so it completes. -/

namespace Sys2Proof.Machine

/-- The most cycles that the outstanding action takes until its answer, under prompt answers: the countdown of
`WAIT_CTR` for a wait (10_state.md R25), and the cycle of the answer. -/
def answerCycles (waitCtr : Nat) : Action → Nat
  | .hwReset => 1
  | .write _ _ => 1
  | .wait _ => waitCtr + 1

/-- The most cycles that the operation in flight can still take under prompt answers. -/
def State.cyclesLeft (s : State) : Nat :=
  match s.phase with
  | .idle => 0
  | .issue => opCycles s.conf.cyclesPerMs (s.prog.drop s.position)
  | .await =>
    s.current.elim 0 (answerCycles s.waitCtr) + opCycles s.conf.cyclesPerMs (s.prog.drop (s.position + 1))

theorem cyclesLeft_issue {s : State} (issue : s.phase = .issue) :
    s.cyclesLeft = opCycles s.conf.cyclesPerMs (s.prog.drop s.position) := by
  simp only [State.cyclesLeft, issue]

theorem cyclesLeft_await {s : State} {act : Action} (await : s.phase = .await) (cur : s.current = some act) :
    s.cyclesLeft =
      answerCycles s.waitCtr act + opCycles s.conf.cyclesPerMs (s.prog.drop (s.position + 1)) := by
  simp only [State.cyclesLeft, await, cur, Option.elim_some]

theorem answerCycles_pos (waitCtr : Nat) (act : Action) : 0 < answerCycles waitCtr act := by
  cases act <;> simp [answerCycles]

theorem opCycles_pos (cyclesPerMs : Nat) (acts : List Action) : 0 < opCycles cyclesPerMs acts := by
  induction acts with
  | nil => exact Nat.one_pos
  | cons act acts ih => cases act <;> simp [opCycles]

/-- The cycles of a wait are those of its whole countdown; another action's do not depend on `WAIT_CTR`. -/
theorem answerCycles_lt_opCycles_cons {cyclesPerMs waitCtr : Nat} {act : Action} (acts : List Action)
    (bounded : ∀ ms, act = .wait ms → waitCtr ≤ ms * cyclesPerMs) :
    answerCycles waitCtr act + opCycles cyclesPerMs acts < opCycles cyclesPerMs (act :: acts) := by
  cases act with
  | hwReset | write => simp only [answerCycles, opCycles]; omega
  | wait ms =>
    have hbound := bounded ms rfl
    simp only [answerCycles, opCycles]
    omega

/-- Part of a program takes at most the cycles of the whole. -/
theorem opCycles_drop_le (cyclesPerMs k : Nat) (acts : List Action) :
    opCycles cyclesPerMs (acts.drop k) ≤ opCycles cyclesPerMs acts := by
  induction acts generalizing k with
  | nil => simp
  | cons act acts ih =>
    cases k with
    | zero => exact le_rfl
    | succ k =>
      have hcons : opCycles cyclesPerMs acts ≤ opCycles cyclesPerMs (act :: acts) := by
        cases act <;> simp only [opCycles] <;> omega
      exact (ih k).trans hcons

/-- What is left of the program begins with the action at `SEQ_IDX` (10_state.md R23). -/
theorem drop_position_of_current {s : State} {act : Action} (cur : s.current = some act) :
    s.prog.drop s.position = act :: s.prog.drop (s.position + 1) := by
  obtain ⟨inside, rfl⟩ := List.getElem?_eq_some_iff.mp cur
  exact List.drop_eq_getElem_cons inside

/-- An operation in flight has at least a cycle left. -/
theorem SeqInv.cyclesLeft_pos {s : State} (hs : SeqInv s) (busy : s.busy = true) : 0 < s.cyclesLeft := by
  cases phase : s.phase with
  | idle => exact absurd phase (busy_iff.mp busy)
  | issue =>
    rw [cyclesLeft_issue phase]
    exact opCycles_pos ..
  | await =>
    obtain ⟨act, cur, -⟩ := hs.awaitOne phase
    rw [cyclesLeft_await phase cur]
    exact Nat.add_pos_left (answerCycles_pos ..) _

/-- An operation in flight has at most the cycles of its whole program left. -/
theorem SeqInv.cyclesLeft_le {s : State} (hs : SeqInv s) (busy : s.busy = true) :
    s.cyclesLeft ≤ opCycles s.conf.cyclesPerMs s.prog := by
  have hdrop := opCycles_drop_le s.conf.cyclesPerMs s.position s.prog
  cases phase : s.phase with
  | idle => exact absurd phase (busy_iff.mp busy)
  | issue => rwa [cyclesLeft_issue phase]
  | await =>
    obtain ⟨act, cur, -⟩ := hs.awaitOne phase
    rw [drop_position_of_current cur] at hdrop
    rw [cyclesLeft_await phase cur]
    refine (answerCycles_lt_opCycles_cons _ ?_).le.trans hdrop
    rintro ms rfl
    exact hs.waitBounded ms phase cur

@[simp] theorem present_cfg (act : Action) (s : State) : (present act s).cfg = s.cfg := by cases act <;> rfl
@[simp] theorem present_env (act : Action) (s : State) : (present act s).env = s.env := by cases act <;> rfl
@[simp] theorem actionDone_cfg (act : Action) (s : State) : (actionDone act s).cfg = s.cfg := by cases act <;> rfl
@[simp] theorem actionDone_env (act : Action) (s : State) : (actionDone act s).env = s.env := by cases act <;> rfl

/-- Presenting a wait starts its whole countdown (40_sequencer.md R99). -/
theorem present_waitCtr_le {act : Action} {s : State} (ms : Nat) (wait : act = .wait ms) :
    (present act s).waitCtr ≤ ms * s.conf.cyclesPerMs := by
  subst wait
  exact le_rfl

/-- Presenting an action takes one of its cycles (40_sequencer.md R93). -/
theorem cyclesLeft_present {s : State} {act : Action} (issue : s.phase = .issue) (cur : s.current = some act) :
    (present act (beginCycle s)).cyclesLeft < s.cyclesLeft := by
  have cur' : (present act (beginCycle s)).current = some act := by simpa using cur
  rw [cyclesLeft_await (present_phase ..) cur', cyclesLeft_issue issue, drop_position_of_current cur]
  simpa [State.conf] using
    answerCycles_lt_opCycles_cons (s.prog.drop (s.position + 1)) (present_waitCtr_le (s := beginCycle s))

/-- An answer takes the last of its action's cycles (40_sequencer.md R96, R98, R99). -/
theorem cyclesLeft_actionDone {s : State} {act : Action} (short : s.prog.length ≤ 256) (await : s.phase = .await)
    (cur : s.current = some act) : (actionDone act (beginCycle s)).cyclesLeft < s.cyclesLeft := by
  have hpos := answerCycles_pos s.waitCtr act
  rw [cyclesLeft_issue (actionDone_phase ..), cyclesLeft_await await cur, actionDone_position_of_current short cur]
  simpa [State.conf] using hpos

/-- A cycle of a wait that counts `WAIT_CTR` down takes one of its cycles (10_state.md R25). -/
theorem cyclesLeft_countDown {s : State} {ms : Nat} (await : s.phase = .await) (cur : s.current = some (.wait ms))
    (counting : s.waitCtr ≠ 0) : State.cyclesLeft { beginCycle s with waitCtr := s.waitCtr - 1 } < s.cyclesLeft := by
  have hleft := cyclesLeft_await (s := { beginCycle s with waitCtr := s.waitCtr - 1 }) await cur
  rw [hleft, cyclesLeft_await await cur]
  exact Nat.add_lt_add_right (Nat.succ_lt_succ (Nat.sub_one_lt counting)) _

/-- A cycle in AWAIT that brings every answer ends the operation, moves past the outstanding action, or counts a wait
down (40_sequencer.md R96 to R99). -/
theorem awaitStep_prompt {inp : Inputs} {s t : State} (prompt : inp.prompt) (h : awaitStep inp s = .next t) :
    t.busy = false ∨ (∃ act, s.current = some act ∧ t = actionDone act s)
      ∨ ∃ ms, s.current = some (.wait ms) ∧ s.waitCtr ≠ 0 ∧ t = { s with waitCtr := s.waitCtr - 1 } := by
  obtain ⟨-, hch, hrst, htimer⟩ := prompt
  obtain ⟨cmd, params, cur, hwrite⟩ | ⟨cur, hreset⟩ | ⟨ms, cur, hwait⟩ := awaitStep_cases h
  · obtain ⟨-, -, rfl⟩ | ⟨-, -, rfl⟩ | ⟨silent, -⟩ := hwrite
    · exact .inr (.inl ⟨_, cur, rfl⟩)
    · exact .inl rfl
    · simp [hch] at silent
  · obtain ⟨-, rfl⟩ | ⟨silent, -⟩ := hreset
    · exact .inr (.inl ⟨_, cur, rfl⟩)
    · simp [hrst] at silent
  · obtain ⟨-, -, rfl⟩ | ⟨-, late, -⟩ | ⟨counting, rfl⟩ := hwait
    · exact .inr (.inl ⟨_, cur, rfl⟩)
    · simp [htimer] at late
    · exact .inr (.inr ⟨ms, cur, counting, rfl⟩)

/-- A prompt cycle ends the operation in flight, or takes one of the cycles it has left. -/
theorem step_prompt {s t : State} (hs : SeqInv s) (busy : s.busy = true) (prompt : s.inputs.prompt)
    (h : step s = .next t) : t.busy = false ∨ (t.env = s.env.tail ∧ t.cyclesLeft < s.cyclesLeft) := by
  obtain ⟨reset, -⟩ | ⟨-, idle, -⟩ | ⟨-, issue, hissue⟩ | ⟨-, await, hawait⟩ := step_cases h
  · obtain ⟨noReset, -⟩ := prompt
    simp [noReset] at reset
  · exact absurd idle (busy_iff.mp busy)
  · obtain ⟨act, cur, rfl⟩ | ⟨-, -, rfl⟩ := issueStep_cases hissue
    · exact .inr ⟨present_env .., cyclesLeft_present issue cur⟩
    · exact .inl rfl
  · obtain ended | ⟨act, cur, rfl⟩ | ⟨ms, cur, counting, rfl⟩ := awaitStep_prompt prompt hawait
    · exact .inl ended
    · exact .inr ⟨actionDone_env .., cyclesLeft_actionDone hs.progShort await cur⟩
    · exact .inr ⟨rfl, cyclesLeft_countDown await cur counting⟩

/-- A schedule that lists a prompt cycle for each cycle left completes the operation, by induction on the schedule. -/
theorem SeqInv.exists_opRun {s : State} (hs : SeqInv s) (busy : s.busy = true) (prompt : ∀ inp ∈ s.env, inp.prompt)
    (enough : s.cyclesLeft ≤ s.env.length) : ∃ t, OpRun s t := by
  induction henv : s.env generalizing s with
  | nil =>
    have hleft := hs.cyclesLeft_pos busy
    simp [henv] at enough
    omega
  | cons inp rest ih =>
    have hinputs : s.inputs = inp := by simp [State.inputs, henv]
    have hprompt : s.inputs.prompt := hinputs ▸ prompt inp (by simp [henv])
    have ⟨noReset, _⟩ := hprompt
    obtain ⟨u, next⟩ := consistentStateSteps s hs
    cases still : u.busy with
    | false => exact ⟨u, .last busy noReset next still⟩
    | true =>
      obtain ended | ⟨htail, less⟩ := step_prompt hs busy hprompt next
      · simp [still] at ended
      · have hrest : u.env = rest := by rw [htail, henv, List.tail_cons]
        have hseq : SeqInv u := stepKeepsSequencer s u hs next
        have henough : u.cyclesLeft ≤ u.env.length := by
          rw [henv, List.length_cons] at enough
          rw [hrest]
          omega
        obtain ⟨t, hrun⟩ :=
          ih hseq still (fun inp hmem => prompt inp (List.mem_of_mem_tail (htail ▸ hmem))) henough hrest
        exact ⟨t, .more busy noReset next still hrun⟩

/-- Settles O56: `opCycles` of the whole program bounds the cycles left. -/
theorem promptAgentsCompleteOperation : Obligations.PromptAgentsCompleteOperation :=
  fun _ hs busy prompt enough => hs.exists_opRun busy prompt ((hs.cyclesLeft_le busy).trans enough)

end Sys2Proof.Machine
end
